-- ==== Sys2Proof/Word.lean ====
section
/-! DEFINITION. The word types of the ports and the field line, and `Quad`, four like things numbered 0 to 3
(the four ports, the four watch slots of a port, its four wake patterns). -/

namespace Sys2Proof

/-- One byte: an address, a character of the line, a byte of the configuration image. -/
abbrev Byte := BitVec 8

/-- A point number or a point value (00, Numbering). -/
abbrev Half := BitVec 16

/-- One word of a port (00, Conventions: words on the ports are 32 bits). -/
abbrev Word := BitVec 32

/-- Four like things, numbered 0 to 3. -/
structure Quad (α : Type) where
  q0 : α
  q1 : α
  q2 : α
  q3 : α
deriving DecidableEq, Repr

namespace Quad

variable {α β γ : Type}

def get (q : Quad α) (i : Fin 4) : α :=
  match i with
  | 0 => q.q0
  | 1 => q.q1
  | 2 => q.q2
  | 3 => q.q3

def set (q : Quad α) (i : Fin 4) (a : α) : Quad α :=
  match i with
  | 0 => { q with q0 := a }
  | 1 => { q with q1 := a }
  | 2 => { q with q2 := a }
  | 3 => { q with q3 := a }

def ofFn (f : Fin 4 → α) : Quad α := ⟨f 0, f 1, f 2, f 3⟩

def fill (a : α) : Quad α := ⟨a, a, a, a⟩

def map (f : α → β) (q : Quad α) : Quad β := ⟨f q.q0, f q.q1, f q.q2, f q.q3⟩

def zip (f : α → β → γ) (a : Quad α) (b : Quad β) : Quad γ :=
  ⟨f a.q0 b.q0, f a.q1 b.q1, f a.q2 b.q2, f a.q3 b.q3⟩

def toList (q : Quad α) : List α := [q.q0, q.q1, q.q2, q.q3]

end Quad

end Sys2Proof
end

