-- ==== Sys2Proof/Config.lean ====
section
/-! DEFINITION. What is fixed for the machine: the codes of the line and of the image, the line parameters with their
defaults (spec 09, Section 9.3), and the one free value, `racePick`. -/

namespace Sys2Proof

/-- A set of ports: member n says whether port n is in it. -/
abbrev PortSet := Quad Bool

/-- The eleven settings of Section 9.3 (R186). Counts are plain numbers; the rate code selects the rate of R1. -/
structure LineParams where
  rateCode : Nat
  replyTimeout : Nat
  retryLimit : Nat
  failureThreshold : Nat
  pollPeriod : Nat
  pollingEnabled : Bool
  reprobeInterval : Nat
  watchLifetime : Nat
  holdoff : Nat
  weights : Quad Nat
  openAtStart : PortSet
deriving DecidableEq, Repr

namespace Config

/-- The marker byte of every frame (R11). -/
def marker : Byte := 0xC5#8

/-- The part's own address on the line (R10). -/
def selfAddress : Byte := 240#8

/-- The format mark of the configuration image (R185). -/
def formatMark : Byte := 0x3C#8

/-- The largest payload of a frame (R11). -/
def maxPayload : Nat := 67

/-- The idle bit times before a frame of the part (R3). -/
def frameGap : Nat := 44

/-- The idle bit times that the end of a received frame must exceed (R6). -/
def characterGap : Nat := 22

/-- The bit times of one character (R1). -/
def characterBits : Nat := 11

/-- The slots of the Station Table (R27). -/
def stationSlots : Nat := 32

/-- The credits of a port (R146). -/
def credits : Nat := 16

/-- The places of a report queue (R130). -/
def reportPlaces : Nat := 32

/-- The keys of an exact list (R135). -/
def listKeys : Nat := 16

/-- The most POLL exchanges to one station in one cycle (R85). -/
def burstLimit : Nat := 4

/-- The bytes of the configuration image (R184). -/
def imageBytes : Nat := 64

/-- The most clock pulses of CLEARING (R183). -/
def clearingPulses : Nat := 9

/-- The device address of the configuration memory (R183). PRESUMED (log 23): a 7-bit I2C address, which stands before
the direction bit. -/
def memoryAddress : BitVec 7 := 0x50

/-- The rate in bit/s of each rate code (R1). -/
def lineRate : Nat → Nat
  | 0 => 9600
  | 1 => 19200
  | 2 => 38400
  | 3 => 76800
  | 4 => 153600
  | _ => 307200

/-- The defaults of Section 9.3 (R185, R186). -/
def defaults : LineParams where
  rateCode := 1
  replyTimeout := 440
  retryLimit := 2
  failureThreshold := 3
  pollPeriod := 50
  pollingEnabled := true
  reprobeInterval := 10
  watchLifetime := 20
  holdoff := 220
  weights := Quad.fill 1
  openAtStart := Quad.fill true

/-- FREE VALUE (log 7). Where two or more events of one change may be taken in either order (R79, R147), the event
taken first is number `racePick n` modulo their number, n being the model's own counter `State.races`. It has no
body: nothing can be proved of the order it gives. -/
opaque racePick : Nat → Nat

end Config

end Sys2Proof
end

