-- ==== Sys2Proof/Syntax.lean ====
section
/-! DEFINITION. The commands of the block, one constructor of `Instr` per row of spec/opcode_table.json. -/

namespace Sys2Proof

/-- A port, 0 to 3. -/
abbrev Port := Fin 4

/-- A watch slot of a port, 0 to 3. -/
abbrev WatchNo := Fin 4

/-- The header fields of a request record other than its kind (R193; 10, Section 10.3). The length is the length byte
as the master writes it. The fields a kind does not use are read and disregarded. -/
structure Header where
  tag : Byte
  length : Byte
  slot : WatchNo := 0
  quiet : Bool := false
  notify : Bool := false
  watch : Bool := false
deriving DecidableEq, Repr

/-- What the configuration lines give the Loader in one load (R183, R184): at how many of its looks CFGSDA is low, the
acknowledges of the three addressing bytes, and the bytes the memory drives. After the last of them the memory has
stopped driving, and every further byte reads 0xFF (R184). -/
structure ConfigLines where
  lowLooks : Nat
  ackWrite : Bool
  ackByte : Bool
  ackRead : Bool
  bytes : List Byte
deriving DecidableEq, Repr

/-- The commands. A request row (READ to UNASSIGNED_KIND) carries the whole record of its request: its header, the
fields of its word 1, and the words behind those its kind lays out (log 6). -/
inductive Instr where
  -- start-up (Chapter 9)
  | powerOnReset
  | loadStart
  | loadEnd (lines : ConfigLines)
  | warmRestart
  | warmRestartEnd
  -- port transactions (Chapters 7 and 8)
  | channelOperation (p : Port) (op : Byte)
  | transactionEnd (p : Port)
  | submitWord (p : Port) (w : Word)
  | takeCompletion (p : Port)
  | takeReport (p : Port)
  | statusRead (p : Port) (full : Bool)
  -- control operations (Chapter 8)
  | openPort (p : Port)
  | doze (p : Port)
  | wakeup (p : Port)
  | close (p : Port)
  | clear (p : Port) (flags : Byte)
  | mask (p : Port) (flags : Byte)
  | force (p : Port) (flags : Byte)
  | invalidControlOperation (p : Port) (w : Word)
  -- line requests (Chapter 7)
  | read (p : Port) (h : Header) (address : Byte) (first : Half) (count : Byte) (more : List Word)
  | write (p : Port) (h : Header) (address : Byte) (first : Half) (count : Byte) (values : List Word)
  | cwrite (p : Port) (h : Header) (address : Byte) (first : Half) (count : Byte) (values : List Word)
  -- local requests (Chapters 6 and 7)
  | attach (p : Port) (h : Header) (address : Byte) (more : List Word)
  | detach (p : Port) (h : Header) (address : Byte) (more : List Word)
  | release (p : Port) (h : Header) (more : List Word)
  | filterMode (p : Port) (h : Header) (mode : Byte) (more : List Word)
  | filterListAdd (p : Port) (h : Header) (station : Byte) (group : Half) (more : List Word)
  | filterListRemove (p : Port) (h : Header) (station : Byte) (group : Half) (more : List Word)
  | filterHashSet (p : Port) (h : Header) (station : Byte) (group : Half) (more : List Word)
  | filterHashClear (p : Port) (h : Header) (station : Byte) (group : Half) (more : List Word)
  | filterClearAll (p : Port) (h : Header) (more : List Word)
  | wakeset (p : Port) (h : Header) (number : BitVec 4) (enabled : Bool) (station : Byte) (point : Half)
      (bits : Half) (compare : Half) (more : List Word)
  | queryStation (p : Port) (h : Header) (address : Byte) (more : List Word)
  | queryChanges (p : Port) (h : Header) (more : List Word)
  | queryWatches (p : Port) (h : Header) (more : List Word)
  | queryLine (p : Port) (h : Header) (more : List Word)
  | mark (p : Port) (h : Header) (more : List Word)
  | unassignedKind (p : Port) (kind : BitVec 4) (h : Header) (words : List Word)
  -- the field line (Chapters 1 and 3)
  | transmitStart
  | sendComplete
  | characterReceived (data : Byte) (parity : Bool) (stop : Bool)
  | frameConfirmation
  | replyTimerExpiry
  | retryGapEnd
  | holdoffExpiry
  -- slow time (Chapters 2, 4 and 5)
  | tick
  | pollTick
  | reprobeDue (slot : Fin 32)
  | watchExpired (p : Port) (k : WatchNo)
  -- further events of the pins
  | transactionBegin (p : Port)
  | lineReturnsHigh
deriving DecidableEq, Repr

end Sys2Proof
end

