-- ==== Sys2Proof/Decode.lean ====
section
/-! DEFINITION. The command that a word spells by the opcode table's bits. No row of spec/opcode_table.json gives bits
(every "fields" is empty and there is no "fixed"), so no word spells a command. The records, words and frames that
software and stations exchange with the part are decoded in Machine/Operands.lean. -/

namespace Sys2Proof

/-- The table gives no row any bits: every word is refused. -/
def decodeTableWord (_nbits _w : Nat) : Option Instr := none

end Sys2Proof
end

