-- ==== Sys2Proof/Machine/State.lean ====
section
/-! DEFINITION. The state of the part: what each block holds (spec 00, Block overview), as plain data, and its value
right after power-on reset. -/

namespace Sys2Proof.Machine

open Sys2Proof

/-! ### Stops -/

/-- The faults. Nothing raises one: the spec gives every command an effect or passes it over, so the type is empty. -/
inductive Fault where
deriving DecidableEq, Repr

/-- The refusals. -/
inductive Refusal where
  /-- A row whose meaning is not written. No arm of `exec` raises it (safe: the machine stops where the part goes on). -/
  | notModelled (mnemonic : String)
deriving DecidableEq, Repr

/-! ### Start-up and the Configuration Loader (Chapter 9) -/

/-- Where the whole part stands: PORST asserted, the configuration load running, running, or a warm restart running
(R182, R190). -/
inductive RunState where
  | powerOn
  | loading
  | running
  | restarting
deriving DecidableEq, Repr

/-- The load phases (R182). -/
inductive LoadPhase where
  | clearing
  | addressing
  | reading
  | judging
  | applying
  | done
deriving DecidableEq, Repr

/-- The load results (R185). -/
inductive LoadResult where
  | loaded
  | adjusted
  | defaultedAbsent
  | defaultedFormat
  | defaultedCheck
deriving DecidableEq, Repr

/-- Who decides CFGSDA at a clock pulse: the line is open-drain, and the other side leaves it released (R183). -/
inductive BusSide where
  | loader
  | memory
deriving DecidableEq, Repr

/-- What happens on the configuration lines (R183). `look` is a look at CFGSDA with the clock high; `releasedPulse` a
clock pulse of CLEARING; `start` and `repeatedStart` a fall, and `stop` a rise, of CFGSDA while CFGSCL is high; `pulse`
one of the nine clock pulses of a byte, with the level of CFGSDA taken while CFGSCL is high. -/
inductive BusOp where
  | look (high : Bool)
  | releasedPulse
  | start
  | repeatedStart
  | stop
  | pulse (side : BusSide) (high : Bool)
deriving DecidableEq, Repr

/-- The Configuration Loader. `phase` is none when it is cleared (R182). -/
structure Loader where
  phase : Option LoadPhase
  image : List Byte
  result : LoadResult
  params : LineParams
  kept : List (Byte × PortSet)
  bus : List BusOp
deriving DecidableEq, Repr

/-! ### The Line Interface (Chapter 1) -/

/-- The transmitter (R3, R4). WAITING holds its frame, DRIVING the bits still to be driven. -/
inductive Transmitter where
  | released
  | waiting (frame : List Byte)
  | driving (bits : List Bool)
deriving DecidableEq, Repr

/-- The receiver: closed, or one of the four assembly states (R6), with the characters of the frame so far. -/
inductive Receiver where
  | closed
  | hunting
  | collecting (chars : List Byte)
  | held (chars : List Byte)
  | discarding
deriving DecidableEq, Repr

/-- The Line Interface: `idle` is the idle count of R2 (0 to 44); `low` says that the line is held low outside a
character (R2, R5), by a fault or after a stop bit taken low, whether the receiver is open or closed. -/
structure LineInterface where
  tx : Transmitter
  rx : Receiver
  idle : Nat
  low : Bool
deriving DecidableEq, Repr

/-! ### The Exchange Engine (Chapter 3) -/

inductive Origin where
  | port (p : Port)
  | internal
deriving DecidableEq, Repr

inductive Purpose where
  | probe
  | reprobe
  | resync
  | poll
  | request
deriving DecidableEq, Repr

inductive ExchangeKind where
  | ping
  | read
  | write
  | cwriteAsWrite
  | broadcast
  | poll
deriving DecidableEq, Repr

inductive Phase where
  | sending
  | awaiting
  | receiving
  | retryGap
  | holdoff
deriving DecidableEq, Repr

/-- How an attempt failed (R58). -/
inductive Failure where
  | timeout
  | garbled
  | protocol
  | busy
deriving DecidableEq, Repr

/-- The K and V of a PING or POLL frame (R53). -/
structure AckSent where
  k : Bool
  v : Bool
deriving DecidableEq, Repr

/-- An exchange in the record (table of Section 3.1), with the first point and the count the Arbiter handed over
(R53, R90). A timer of none is stopped. -/
structure Exchange where
  origin : Origin
  purpose : Purpose
  kind : ExchangeKind
  slot : Option Nat
  address : Byte
  frame : List Byte
  toggleSent : Option Bool
  ackSent : Option AckSent
  attempt : Nat
  phase : Phase
  lastFailure : Option Failure
  buffer : List Half
  nextIndex : Nat
  watchSlot : Option WatchNo
  orphan : Bool
  discard : Bool
  replyTimer : Option Nat
  holdoffTimer : Option Nat
  first : Half
  count : Nat
deriving DecidableEq, Repr

/-! ### The Station Table (Chapter 2) -/

inductive StationState where
  | probing
  | online
  | suspect
  | offline
deriving DecidableEq, Repr

/-- An entry in use (table of Section 2.1). A toggle of none is UNKNOWN. -/
structure Entry where
  address : Byte
  state : StationState
  attached : PortSet
  toggle : Option Bool
  ack : Bool
  capable : Bool
  highest : Half
  failures : Nat
  countdown : Nat
  gaps : PortSet
  changed : PortSet
deriving DecidableEq, Repr

/-! ### The Line Arbiter (Chapter 4) -/

inductive ServicePurpose where
  | probe
  | reprobe
deriving DecidableEq, Repr

/-- An entry of the service list (R81). -/
structure ServiceItem where
  slot : Nat
  address : Byte
  purpose : ServicePurpose
deriving DecidableEq, Repr

/-- The Line Arbiter (table of Chapter 4). A poll timer of none is stopped (R97). The request of a pairing is the
head of the named port's queue (R91). -/
structure Arbiter where
  serviceList : List ServiceItem
  cycleOpen : Bool
  cursor : Nat
  burstCount : Nat
  burstAddress : Option Byte
  pollTimer : Option Nat
  overruns : Byte
  pointer : Port
  used : Nat
  pairing : Option Port
deriving DecidableEq, Repr

/-! ### The Watch Unit (Chapter 5) -/

inductive WatchState where
  | empty
  | armed
  | broken
  | committing
deriving DecidableEq, Repr

inductive BreakCause where
  | none
  | write
  | broadcast
  | report
  | offline
  | expired
deriving DecidableEq, Repr

/-- Remaining life in poll ticks, or unlimited (R99). -/
inductive Life where
  | ticks (n : Nat)
  | unlimited
deriving DecidableEq, Repr

/-- The station and the range that a watch covers (R99). -/
structure Cover where
  station : Byte
  first : Half
  count : Nat
deriving DecidableEq, Repr

/-- A watch slot (table of Section 5.1). `cover` is none when the station address, first point and count are none. -/
structure Watch where
  state : WatchState
  cover : Option Cover
  notify : Bool
  life : Life
  cause : BreakCause
deriving DecidableEq, Repr

/-- A slot in EMPTY with the values of R99. -/
def Watch.emptySlot : Watch := ⟨.empty, Option.none, false, .ticks 0, .none⟩

/-! ### The Report Router (Chapter 6) -/

inductive FilterMode where
  | none
  | exact
  | hashed
  | all
deriving DecidableEq, Repr

/-- A filter key (R125). -/
structure Key where
  station : Byte
  group : Half
deriving DecidableEq, Repr

structure WakePattern where
  enabled : Bool
  station : Byte
  point : Half
  mask : Half
  compare : Half
deriving DecidableEq, Repr

/-- The cleared pattern of R124. -/
def WakePattern.cleared : WakePattern := ⟨false, 0, 0, 0, 0⟩

/-- The routing state of one port (tables of Section 6.2). -/
structure Routing where
  mode : FilterMode
  keys : List Key
  hash : BitVec 512
  patterns : Quad WakePattern
deriving DecidableEq, Repr

/-- A cleared filter and four cleared patterns (R124, R141). -/
def Routing.cleared : Routing := ⟨.none, [], 0, Quad.fill WakePattern.cleared⟩

/-- One item of a report (R21). -/
structure Item where
  point : Half
  value : Half
deriving DecidableEq, Repr

/-- An ITEMS record (R129). -/
structure ItemsRecord where
  station : Byte
  gap : Bool
  items : List Item
deriving DecidableEq, Repr

/-! ### The Port Units (Chapters 7 and 8) -/

/-- A committed request record: its header word and the words behind it (R143). -/
structure Request where
  header : Word
  body : List Word
deriving DecidableEq, Repr

/-- The thirteen completion statuses (R162). -/
inductive Status where
  | ok
  | refused
  | busy
  | noResponse
  | badReply
  | offline
  | notAttached
  | range
  | badReq
  | lost
  | mismatch
  | tableFull
  | already
deriving DecidableEq, Repr

/-- A completion record (R161): its fields, and the words of values or results behind the first two. -/
structure Completion where
  kind : BitVec 4
  status : Status
  detail : BitVec 4
  tag : Byte
  station : Byte
  first : Half
  count : Byte
  attempts : Nat
  body : List Word
deriving DecidableEq, Repr

inductive PortState where
  | closed
  | opened
  | dozing
  | closing
deriving DecidableEq, Repr

inductive HeadMark where
  | none
  | waiting
  | paired
deriving DecidableEq, Repr

/-- The six sticky flags (R174). -/
structure Sticky where
  changed : Bool
  broken : Bool
  refused : Bool
  overrun : Bool
  config : Bool
  wake : Bool
deriving DecidableEq, Repr

/-- Every sticky flag clear (R181). -/
def Sticky.allClear : Sticky := ⟨false, false, false, false, false, false⟩

/-- The channel of a transaction (R142). `unassigned` is any other operation byte. -/
inductive Channel where
  | submit
  | takeCompletion
  | takeReport
  | status
  | control
  | unassigned
deriving DecidableEq, Repr

/-- The transaction of a port (R142). `tainted` says that it began while the load or a warm restart ran, or was under
way when a warm restart was taken: it is then void unless it is a STATUS read. `finished` says that it has sent its
one record, or kind NONE (R164). `sent` is the last word that the part sent on PnSDO (log 12). -/
structure Link where
  selected : Bool
  tainted : Bool
  channel : Option Channel
  finished : Bool
  sent : Option Word
deriving DecidableEq, Repr

/-- A port whose select is deasserted. -/
def Link.idle : Link := ⟨false, false, none, false, none⟩

/-- A Port Unit (tables of Chapters 7 and 8). -/
structure PortUnit where
  state : PortState
  sticky : Sticky
  mask : Byte
  restarted : Bool
  credits : Nat
  staging : List Word
  queue : List Request
  headMark : HeadMark
  inFlight : Option Request
  completions : List Completion
  completionPos : Nat
  reports : List ItemsRecord
  reportPos : Nat
  link : Link
deriving DecidableEq, Repr

/-- A Port Unit after power-on reset (R181, R146). -/
def PortUnit.reset : PortUnit where
  state := .closed
  sticky := Sticky.allClear
  mask := 0
  restarted := false
  credits := Config.credits
  staging := []
  queue := []
  headMark := .none
  inFlight := none
  completions := []
  completionPos := 0
  reports := []
  reportPos := 0
  link := Link.idle

/-! ### The part -/

structure State where
  run : RunState
  loader : Loader
  line : LineInterface
  exchange : Option Exchange
  table : List (Option Entry)
  arbiter : Arbiter
  watches : Quad (Quad Watch)
  routing : Quad Routing
  ports : Quad PortUnit
  races : Nat
  pending : List Instr
deriving DecidableEq, Repr

/-- The Loader with its phase and buffer cleared (R182). DESIGN CHOICE (log 2): before a load has ended, the result and
the parameters, for which the spec gives no value, are those of a memory that was never found. Unsafe. -/
def Loader.cleared : Loader := ⟨none, [], .defaultedAbsent, Config.defaults, [], []⟩

/-- The Arbiter at power-on reset (R97). -/
def Arbiter.reset : Arbiter := ⟨[], false, 0, 0, none, none, 0, 0, 0, none⟩

/-- The machine right after power-on reset, PORST still asserted (R181, R97, R50, R52, R120, R141, R9; log 1). -/
def State.reset : State where
  run := .powerOn
  loader := Loader.cleared
  line := ⟨.released, .closed, 0, false⟩
  exchange := none
  table := List.replicate Config.stationSlots none
  arbiter := Arbiter.reset
  watches := Quad.fill (Quad.fill Watch.emptySlot)
  routing := Quad.fill Routing.cleared
  ports := Quad.fill PortUnit.reset
  races := 0
  pending := []

end Sys2Proof.Machine
end

