-- ==== Sys2Proof/Machine/Operands.lean ====
section
/-! DEFINITION. Every layout of spec 10 and the bit rules behind it: characters (R1), the check (R11), frames and their
shapes (R8, R12, R192), request records (R193), completion records (R194), report records (R195), the control word
(R196) and the configuration image (R186, R187, R197). -/

namespace Sys2Proof.Machine

open Sys2Proof

/-! ### Sets of ports -/

namespace PortSet

def empty : PortSet := Quad.fill false

def single (p : Port) : PortSet := PortSet.empty.set p true

def union (a b : PortSet) : PortSet := Quad.zip (fun x y => x || y) a b

def inter (a b : PortSet) : PortSet := Quad.zip (fun x y => x && y) a b

def remove (a : PortSet) (p : Port) : PortSet := a.set p false

def isEmpty (a : PortSet) : Bool := !(a.q0 || a.q1 || a.q2 || a.q3)

/-- Bits 3-0 of a byte, bit n for port n (Section 10.7). -/
def ofByte (b : Byte) : PortSet := ⟨b.getLsbD 0, b.getLsbD 1, b.getLsbD 2, b.getLsbD 3⟩

/-- Bit n for port n (Section 10.4). -/
def nibble (a : PortSet) : BitVec 4 :=
  BitVec.ofBool a.q3 ++ BitVec.ofBool a.q2 ++ BitVec.ofBool a.q1 ++ BitVec.ofBool a.q0

end PortSet

/-! ### Bytes and halves -/

/-- A field of two bytes, high byte first (Chapter 10). -/
def bytesOfHalf (h : Half) : List Byte := [h.extractLsb' 8 8, h.extractLsb' 0 8]

def halfOfBytes (hi lo : Byte) : Half := hi ++ lo

/-- Two-byte values in order; a byte left over is dropped. -/
def halvesOfBytes : List Byte → List Half
  | hi :: lo :: rest => halfOfBytes hi lo :: halvesOfBytes rest
  | _ => []

/-- Four-byte items in order (R21). -/
def itemsOfBytes : List Byte → List Item
  | a :: b :: c :: d :: rest => ⟨halfOfBytes a b, halfOfBytes c d⟩ :: itemsOfBytes rest
  | _ => []

/-- Two values to a word, the earlier in bits 31-16; bits 15-0 of the last word 0 when the number is odd
(Section 10.4). -/
def packHalves : List Half → List Word
  | a :: b :: rest => (a ++ b : BitVec 32) :: packHalves rest
  | [a] => [(a ++ (0 : Half) : BitVec 32)]
  | [] => []

/-- The values of words that hold two to a word (R151). -/
def unpackHalves (ws : List Word) : List Half :=
  ws.flatMap fun w => [w.extractLsb' 16 16, w.extractLsb' 0 16]

/-- Four bytes to a word, the first in bits 31-24, the bytes after the last 0 (QUERY CHANGES, Section 10.4). -/
def packBytes : List Byte → List Word
  | a :: b :: c :: d :: rest => (a ++ b ++ c ++ d : BitVec 32) :: packBytes rest
  | [a, b, c] => [(a ++ b ++ c ++ (0 : Byte) : BitVec 32)]
  | [a, b] => [(a ++ b ++ (0 : Half) : BitVec 32)]
  | [a] => [(a ++ (0 : BitVec 24) : BitVec 32)]
  | [] => []

/-! ### Characters (R1, R5) and the check (R11) -/

/-- The data bits of a character, least significant first (R1). -/
def dataBits (b : Byte) : List Bool :=
  [b.getLsbD 0, b.getLsbD 1, b.getLsbD 2, b.getLsbD 3, b.getLsbD 4, b.getLsbD 5, b.getLsbD 6, b.getLsbD 7]

/-- Whether the number of ones is odd. -/
def oddOnes (bits : List Bool) : Bool := bits.foldl (fun acc b => acc != b) false

/-- The 11 bits of a character: start bit low, data, even parity, stop bit high (R1). -/
def characterBits (b : Byte) : List Bool := [false] ++ dataBits b ++ [oddOnes (dataBits b), true]

/-- The bits of a frame, its characters back to back (R4). -/
def frameBits (frame : List Byte) : List Bool := frame.flatMap characterBits

/-- A received character has a fault when its parity is odd or its stop bit is low (R5). -/
def characterFault (data : Byte) (parity stop : Bool) : Bool := oddOnes (dataBits data ++ [parity]) || !stop

/-- One bit through the check x^16 + x^12 + x^5 + 1 (R11). -/
def crcBit (crc : Half) (bit : Bool) : Half :=
  if crc.msb != bit then (crc <<< 1) ^^^ 0x1021#16 else crc <<< 1

/-- The check of R11: initial value 0xFFFF, bytes most significant bit first, no inversion. -/
def crc16 (bytes : List Byte) : Half :=
  (bytes.flatMap fun b => (dataBits b).reverse).foldl crcBit 0xFFFF#16

/-! ### Frames of the part (R13-R17, R192) -/

/-- Frame kind codes (Section 10.1). -/
def kindPing : BitVec 4 := 1
def kindRead : BitVec 4 := 2
def kindWrite : BitVec 4 := 3
def kindPoll : BitVec 4 := 4
def kindPong : BitVec 4 := 9
def kindAnswer : BitVec 4 := 10
def kindAccept : BitVec 4 := 11
def kindRefuse : BitVec 4 := 12
def kindReport : BitVec 4 := 13
def kindNothing : BitVec 4 := 14

/-- The control byte: V, K, M, T and the kind, from bit 7 down (R192). -/
def controlByte (v k m t : Bool) (kind : BitVec 4) : Byte :=
  BitVec.ofBool v ++ BitVec.ofBool k ++ BitVec.ofBool m ++ BitVec.ofBool t ++ kind

/-- A frame: marker, the bytes the check covers, the check high byte first (R11). -/
def frameOf (destination source control : Byte) (payload : List Byte) : List Byte :=
  let body := destination :: source :: control :: BitVec.ofNat 8 payload.length :: payload
  Config.marker :: (body ++ bytesOfHalf (crc16 body))

/-- A frame of the part carries source 240 (R10). -/
def partFrame (destination control : Byte) (payload : List Byte) : List Byte :=
  frameOf destination Config.selfAddress control payload

def pingFrame (address : Byte) (a : AckSent) : List Byte :=
  partFrame address (controlByte a.v a.k false false kindPing) []

def pollFrame (address : Byte) (a : AckSent) : List Byte :=
  partFrame address (controlByte a.v a.k false false kindPoll) []

def readFrame (address : Byte) (first : Half) (count : Nat) : List Byte :=
  partFrame address (controlByte false false false false kindRead) (bytesOfHalf first ++ [BitVec.ofNat 8 count])

def writeFrame (address : Byte) (t : Bool) (first : Half) (values : List Half) : List Byte :=
  partFrame address (controlByte false false false t kindWrite)
    (bytesOfHalf first ++ [BitVec.ofNat 8 values.length] ++ values.flatMap bytesOfHalf)

/-! ### Frames received (R8, R20, R192) -/

inductive RefuseReason where
  | nopoint
  | denied
  | busy
  | fault
deriving DecidableEq, Repr

/-- The reasons of Section 10.1; any other value is taken as FAULT (R20). -/
def refuseReason (b : Byte) : RefuseReason :=
  if b = 1 then .nopoint else if b = 2 then .denied else if b = 3 then .busy else .fault

/-- The detail codes of refuse reasons (Section 10.4). BUSY is a status of its own and carries no detail. -/
def RefuseReason.code : RefuseReason → BitVec 4
  | .nopoint => 1
  | .denied => 2
  | .busy => 3
  | .fault => 4

/-- A frame of a station kind, its fields named (R8). -/
inductive Reply where
  | pong (capable : Bool) (highest : Half)
  | answer (index : Nat) (values : List Half) (more : Bool)
  | accept
  | refuse (reason : RefuseReason)
  | report (t : Bool) (more : Bool) (items : List Item)
  | nothing
deriving DecidableEq, Repr

/-- The causes of a garbled frame (R7). -/
inductive GarbleCause where
  | characterFault
  | marker
  | lengthOver67
  | shortFrame
  | longFrame
  | check
deriving DecidableEq, Repr

/-- The report that ends a received frame, with what it passes on (summary of Section 1.5). -/
inductive FrameReport where
  | garbled (cause : GarbleCause)
  | ignored
  | malformed (source : Byte)
  | valid (source : Byte) (reply : Reply)
deriving DecidableEq, Repr

/-- The kind and shape check of R8: none is malformed. Fields that the kind does not use are disregarded (R12). -/
def replyOf (control : Byte) (payload : List Byte) : Option Reply :=
  let kind : BitVec 4 := control.extractLsb' 0 4
  let t := control.getLsbD 4
  let m := control.getLsbD 5
  if kind = kindPong then
    match payload with
    | [flags, hi, lo] => some (.pong (flags.getLsbD 0) (halfOfBytes hi lo))
    | _ => none
  else if kind = kindAnswer then
    match payload with
    | index :: values =>
      if values.length % 2 = 0 ∧ 1 ≤ values.length / 2 ∧ values.length / 2 ≤ 32 ∧ index.toNat ≤ 3 then
        some (.answer index.toNat (halvesOfBytes values) m)
      else none
    | [] => none
  else if kind = kindAccept then
    if payload = [] then some .accept else none
  else if kind = kindRefuse then
    match payload with
    | [reason] => some (.refuse (refuseReason reason))
    | _ => none
  else if kind = kindReport then
    match payload with
    | count :: items =>
      if items.length % 4 = 0 ∧ 1 ≤ items.length / 4 ∧ items.length / 4 ≤ 8 ∧ count.toNat = items.length / 4 then
        some (.report t m (itemsOfBytes items))
      else none
    | [] => none
  else if kind = kindNothing then
    if payload = [] then some .nothing else none
  else none

/-- The bytes of a complete frame that its check covers: destination to last payload byte (R11). -/
def coveredBytes (chars : List Byte) : List Byte := (chars.drop 1).take (chars.length - 3)

/-- The check bytes of a complete frame, the first as the high byte (R11). -/
def checkOf (chars : List Byte) : Half :=
  halfOfBytes (chars.getD (chars.length - 2) 0) (chars.getD (chars.length - 1) 0)

/-- The evaluation of a frame confirmed in HELD: the check first (R7), then the destination, then kind and shape
(R8). -/
def evaluateFrame (chars : List Byte) : FrameReport :=
  if crc16 (coveredBytes chars) ≠ checkOf chars then .garbled .check
  else if chars.getD 1 0 ≠ Config.selfAddress then .ignored
  else
    let source := chars.getD 2 0
    match replyOf (chars.getD 3 0) ((coveredBytes chars).drop 4) with
    | none => .malformed source
    | some reply => .valid source reply

/-! ### Request records (R144, R193) -/

/-- Request kind codes (Section 10.3). -/
def reqRead : BitVec 4 := 1
def reqWrite : BitVec 4 := 2
def reqCwrite : BitVec 4 := 3
def reqAttach : BitVec 4 := 8
def reqDetach : BitVec 4 := 9
def reqRelease : BitVec 4 := 10
def reqFilter : BitVec 4 := 11
def reqWakeset : BitVec 4 := 12
def reqQuery : BitVec 4 := 13
def reqMark : BitVec 4 := 14

/-- A length byte that is not 2 to 18 (R144). -/
def badLengthByte (b : Byte) : Bool := decide (b.toNat < 2) || decide (18 < b.toNat)

/-- The record length in words: a bad length is taken as 2 (R144). -/
def takenLength (header : Word) : Nat :=
  let b : Byte := header.extractLsb' 0 8
  if badLengthByte b then 2 else b.toNat

namespace Request

def kind (r : Request) : BitVec 4 := r.header.extractLsb' 28 4
def slot (r : Request) : WatchNo := (r.header.extractLsb' 20 2).toFin
def quiet (r : Request) : Bool := r.header.getLsbD 18
def notify (r : Request) : Bool := r.header.getLsbD 17
def watch (r : Request) : Bool := r.header.getLsbD 16
def tag (r : Request) : Byte := r.header.extractLsb' 8 8
/-- The mark "bad length" (R144). -/
def badLength (r : Request) : Bool := badLengthByte (r.header.extractLsb' 0 8)
def length (r : Request) : Nat := r.body.length + 1
def word1 (r : Request) : Word := r.body.getD 0 0
def word2 (r : Request) : Word := r.body.getD 1 0
/-- Bits 31-24 of word 1: station address of a line request, ATTACH or DETACH; sub-operation of FILTER or QUERY. -/
def top (r : Request) : Byte := r.word1.extractLsb' 24 8
/-- Bits 23-16 of word 1: FILTER mode or key address, WAKESET or QUERY STATION address. -/
def second (r : Request) : Byte := r.word1.extractLsb' 16 8
def first (r : Request) : Half := r.word1.extractLsb' 8 16
def count (r : Request) : Byte := r.word1.extractLsb' 0 8
/-- Bits 15-0 of word 1: FILTER group, WAKESET point. -/
def low (r : Request) : Half := r.word1.extractLsb' 0 16
/-- The values of a WRITE or CWRITE, as many as its count (R151). -/
def values (r : Request) : List Half := (unpackHalves (r.body.drop 1)).take r.count.toNat

/-- READ, WRITE or CWRITE (00, Terms). -/
def isLine (r : Request) : Bool := r.kind == reqRead || r.kind == reqWrite || r.kind == reqCwrite

def isRead (r : Request) : Bool := r.kind == reqRead
def isWrite (r : Request) : Bool := r.kind == reqWrite
def isCwrite (r : Request) : Bool := r.kind == reqCwrite
def isAttach (r : Request) : Bool := r.kind == reqAttach

/-- A WRITE whose station address is 0 (R149). -/
def isBroadcast (r : Request) : Bool := r.isWrite && r.top == 0

/-- A READ with the watch flag (R150). -/
def isWatchedRead (r : Request) : Bool := r.isRead && r.watch

/-- The last point of a line request, first point plus count less one (R149). -/
def lastPoint (r : Request) : Nat := r.first.toNat + r.count.toNat - 1

/-- The length its kind and count call for (R144). -/
def lineLength (r : Request) : Nat := if r.isRead then 2 else 2 + (r.count.toNat + 1) / 2

/-- Start check 1 of a line request (R149, R193). -/
def lineBad (r : Request) : Bool :=
  r.badLength || decide (r.length ≠ r.lineLength)
    || decide (r.count.toNat < 1) || decide ((if r.isRead then 128 else 32) < r.count.toNat)
    || decide (65535 < r.lastPoint)
    || (!r.isWrite && r.top == 0) || decide (200 < r.top.toNat)
    || (!r.isRead && r.watch)

/-- A local request whose record is marked bad length or has a length other than `n` (R144). -/
def wrongLength (r : Request) (n : Nat) : Bool := r.badLength || decide (r.length ≠ n)

/-- The station field of its completion (R161): the address the request names, or 0. DEDUCED (log 14): the address of a
FILTER is its key's, that of a WAKESET its pattern's; a RELEASE, and a FILTER without a key, show 0. -/
def station (r : Request) : Byte :=
  if r.isLine || r.kind == reqAttach || r.kind == reqDetach then r.top
  else if r.kind == reqFilter then
    (if decide (2 ≤ r.top.toNat) && decide (r.top.toNat ≤ 5) then r.second else 0)
  else if r.kind == reqWakeset then r.second
  else if r.kind == reqQuery then (if r.top == 1 then r.second else 0)
  else 0

end Request

/-- A station address, 1-200 (R10). -/
def stationAddress (a : Byte) : Bool := decide (1 ≤ a.toNat) && decide (a.toNat ≤ 200)

/-! The records of the request rows, built in the layout of Section 10.3. -/

def headerWord (kind : BitVec 4) (h : Header) : Word :=
  (kind ++ (0 : BitVec 6) ++ (BitVec.ofNat 2 h.slot.val) ++ (0 : BitVec 1) ++ BitVec.ofBool h.quiet
    ++ BitVec.ofBool h.notify ++ BitVec.ofBool h.watch ++ h.tag ++ h.length : BitVec 32)

/-- Word 1 of a line request. -/
def lineWord (address : Byte) (first : Half) (count : Byte) : Word := (address ++ first ++ count : BitVec 32)

/-- Word 1 of ATTACH and DETACH. -/
def addressWord (address : Byte) : Word := (address ++ (0 : BitVec 24) : BitVec 32)

/-- Word 1 of FILTER and QUERY: sub-operation, bits 23-16, bits 15-0. -/
def subWord (sub second : Byte) (low : Half) : Word := (sub ++ second ++ low : BitVec 32)

/-- Words 1 and 2 of WAKESET. -/
def wakesetWords (number : BitVec 4) (enabled : Bool) (station : Byte) (point mask compare : Half) : List Word :=
  [(number ++ BitVec.ofBool enabled ++ (0 : BitVec 3) ++ station ++ point : BitVec 32),
   (mask ++ compare : BitVec 32)]

/-! ### Completion records (R161, R194) -/

def Status.code : Status → BitVec 4
  | .ok => 0
  | .refused => 1
  | .busy => 2
  | .noResponse => 3
  | .badReply => 4
  | .offline => 5
  | .notAttached => 6
  | .range => 7
  | .badReq => 8
  | .lost => 9
  | .mismatch => 10
  | .tableFull => 11
  | .already => 12

/-- The detail codes of station states (Section 10.4). -/
def StationState.code : StationState → BitVec 4
  | .probing => 1
  | .online => 2
  | .suspect => 3
  | .offline => 4

/-- The detail codes of break causes (Section 10.4). -/
def BreakCause.code : BreakCause → BitVec 4
  | .none => 0
  | .write => 1
  | .broadcast => 2
  | .report => 3
  | .offline => 4
  | .expired => 5

def WatchState.code : WatchState → BitVec 4
  | .empty => 0
  | .armed => 1
  | .broken => 2
  | .committing => 3

def FilterMode.code : FilterMode → Byte
  | .none => 0
  | .exact => 1
  | .hashed => 2
  | .all => 3

/-- The mode codes of Section 10.3; any other value is no mode (R133). -/
def filterMode (b : Byte) : Option FilterMode :=
  if b = 0 then some .none else if b = 1 then some .exact else if b = 2 then some .hashed
  else if b = 3 then some .all else none

def LoadResult.code : LoadResult → Byte
  | .loaded => 1
  | .adjusted => 2
  | .defaultedAbsent => 3
  | .defaultedFormat => 4
  | .defaultedCheck => 5

namespace Completion

def length (c : Completion) : Nat := 2 + c.body.length

def word0 (c : Completion) : Word :=
  (c.kind ++ c.status.code ++ c.detail ++ BitVec.ofNat 4 c.attempts ++ c.tag ++ BitVec.ofNat 8 c.length : BitVec 32)

def word1 (c : Completion) : Word := (c.station ++ c.first ++ c.count : BitVec 32)

/-- The words of the record as a TAKE-COMPLETION sends them (R194). -/
def words (c : Completion) : List Word := c.word0 :: c.word1 :: c.body

end Completion

/-- The completion of a request: kind and tag as the header gave them; first point and count as a line request gave
them, else 0 (R161). -/
def completionOf (r : Request) (status : Status) (detail : BitVec 4) (attempts : Nat) (body : List Word) :
    Completion where
  kind := r.kind
  status := status
  detail := detail
  tag := r.tag
  station := r.station
  first := if r.isLine then r.first else 0
  count := if r.isLine then r.count else 0
  attempts := attempts
  body := body

/-- QUERY STATION, words 2 and 3 (Section 10.4). -/
def stationWords (e : Entry) : List Word :=
  [((0 : BitVec 4) ++ e.state.code ++ BitVec.ofNat 8 e.failures ++ e.highest : BitVec 32),
   ((0 : BitVec 7) ++ BitVec.ofBool e.capable ++ (0 : BitVec 7) ++ BitVec.ofBool e.toggle.isSome
     ++ (0 : BitVec 12) ++ PortSet.nibble e.attached : BitVec 32)]

/-- The two words of one slot in QUERY WATCHES (Section 10.4, R194). -/
def watchWords (w : Watch) : List Word :=
  let (unlimited, life) : Bool × Nat := match w.life with
    | .ticks n => (false, n)
    | .unlimited => (true, 0)
  let (station, first, count) : Byte × Half × Nat := match w.cover with
    | some c => (c.station, c.first, c.count)
    | Option.none => (0, 0, 0)
  [(w.state.code ++ w.cause.code ++ (0 : BitVec 7) ++ BitVec.ofBool unlimited ++ BitVec.ofNat 8 life ++ station
      : BitVec 32),
   (first ++ BitVec.ofNat 16 count : BitVec 32)]

/-- QUERY LINE, words 2 to 5 (Section 10.4). -/
def lineWords (p : LineParams) (overruns : Byte) (result : LoadResult) : List Word :=
  [(BitVec.ofNat 4 p.rateCode ++ BitVec.ofNat 4 p.retryLimit ++ BitVec.ofNat 4 p.failureThreshold
      ++ BitVec.ofBool p.pollingEnabled ++ (0 : BitVec 6) ++ BitVec.ofNat 13 p.replyTimeout : BitVec 32),
   (BitVec.ofNat 8 p.pollPeriod ++ BitVec.ofNat 8 p.reprobeInterval ++ BitVec.ofNat 8 p.watchLifetime
      ++ overruns : BitVec 32),
   (BitVec.ofNat 12 p.holdoff ++ PortSet.nibble p.openAtStart ++ BitVec.ofNat 4 p.weights.q3
      ++ BitVec.ofNat 4 p.weights.q2 ++ BitVec.ofNat 4 p.weights.q1 ++ BitVec.ofNat 4 p.weights.q0 : BitVec 32),
   (result.code ++ (0 : BitVec 24) : BitVec 32)]

/-! ### Report records (R195) -/

namespace ItemsRecord

def length (r : ItemsRecord) : Nat := 1 + r.items.length

def word0 (r : ItemsRecord) : Word :=
  ((1 : BitVec 4) ++ (0 : BitVec 3) ++ BitVec.ofBool r.gap ++ (0 : BitVec 4) ++ BitVec.ofNat 4 r.items.length
    ++ r.station ++ BitVec.ofNat 8 r.length : BitVec 32)

/-- The words of the record as a TAKE-REPORT sends them (R195). -/
def words (r : ItemsRecord) : List Word :=
  r.word0 :: r.items.map fun i => (i.point ++ i.value : BitVec 32)

end ItemsRecord

/-! ### Filter keys (R125) -/

/-- The key of an item: the station and the point divided by 16. -/
def itemKey (station : Byte) (point : Half) : Key := ⟨station, point >>> 4⟩

/-- The hash index of a key: the nine least significant bits of the check over three bytes (R125). -/
def hashIndex (k : Key) : Nat := ((crc16 (k.station :: bytesOfHalf k.group)).extractLsb' 0 9).toNat

/-! ### The channel byte and the control word (R142, R196) -/

def channelOf (op : Byte) : Channel :=
  if op = 1 then .submit else if op = 2 then .takeCompletion else if op = 3 then .takeReport
  else if op = 4 then .status else if op = 5 then .control else .unassigned

/-- The operations of the control word (Section 10.6). `none` is an unassigned code. -/
inductive ControlOp where
  | openPort
  | doze
  | wakeup
  | close
  | clear
  | mask
  | force
deriving DecidableEq, Repr

def controlOp (w : Word) : Option ControlOp :=
  let op : Byte := w.extractLsb' 24 8
  if op = 1 then some .openPort else if op = 2 then some .doze else if op = 3 then some .wakeup
  else if op = 4 then some .close else if op = 5 then some .clear else if op = 6 then some .mask
  else if op = 7 then some .force else none

/-- The flag set of a control word, in the bit order of the mask (R196). -/
def controlFlags (w : Word) : Byte := w.extractLsb' 0 8

def ControlOp.code : ControlOp → Byte
  | .openPort => 1
  | .doze => 2
  | .wakeup => 3
  | .close => 4
  | .clear => 5
  | .mask => 6
  | .force => 7

/-- The control word of an operation and a flag set (Section 10.6). -/
def controlWord (op : ControlOp) (flags : Byte) : Word := (op.code ++ (0 : BitVec 16) ++ flags : BitVec 32)

/-! ### The configuration image (R184-R187, R197) -/

/-- The 64 bytes the Loader reads: after the bytes the memory drives the data line reads as ones (R184). -/
def imageOf (bytes : List Byte) : List Byte :=
  (bytes ++ List.replicate Config.imageBytes 0xFF#8).take Config.imageBytes

def imageByte (image : List Byte) (k : Nat) : Nat := (image.getD k 0).toNat

/-- A field of two bytes, high byte first (R197). -/
def imageHalf (image : List Byte) (k : Nat) : Nat := imageByte image k * 256 + imageByte image (k + 1)

/-- A field in its range takes its value; outside it, its default (R186). -/
def settleField (lo hi default value : Nat) : Nat := if lo ≤ value ∧ value ≤ hi then value else default

/-- Whether a field is out of its range (R186). -/
def outOfRange (lo hi value : Nat) : Bool := decide (value < lo) || decide (hi < value)

/-- The line parameters settled from the image (R186, R197). -/
def settledParams (image : List Byte) : LineParams where
  rateCode := settleField 0 5 1 (imageByte image 1)
  replyTimeout := settleField 44 8191 440 (imageHalf image 2)
  retryLimit := settleField 0 7 2 (imageByte image 4)
  failureThreshold := settleField 1 15 3 (imageByte image 5)
  pollPeriod := settleField 1 255 50 (imageByte image 6)
  pollingEnabled := decide (imageByte image 7 ≠ 0)
  reprobeInterval := settleField 1 255 10 (imageByte image 8)
  watchLifetime := imageByte image 9
  holdoff := settleField 0 4095 220 (imageHalf image 10)
  weights := ⟨settleField 1 4 1 (imageByte image 12), settleField 1 4 1 (imageByte image 13),
    settleField 1 4 1 (imageByte image 14), settleField 1 4 1 (imageByte image 15)⟩
  openAtStart := PortSet.ofByte (image.getD 16 0)

/-- Whether some field of the image is out of range (R186, R197). -/
def fieldsAdjusted (image : List Byte) : Bool :=
  outOfRange 0 5 (imageByte image 1) || outOfRange 44 8191 (imageHalf image 2)
    || outOfRange 0 7 (imageByte image 4) || outOfRange 1 15 (imageByte image 5)
    || outOfRange 1 255 (imageByte image 6) || outOfRange 0 1 (imageByte image 7)
    || outOfRange 1 255 (imageByte image 8) || outOfRange 0 4095 (imageHalf image 10)
    || outOfRange 1 4 (imageByte image 12) || outOfRange 1 4 (imageByte image 13)
    || outOfRange 1 4 (imageByte image 14) || outOfRange 1 4 (imageByte image 15)

/-- The eight pre-attach entries in image order (R197). -/
def preAttachEntries (image : List Byte) : List (Byte × PortSet) :=
  (List.range 8).map fun k => (image.getD (20 + 2 * k) 0, PortSet.ofByte (image.getD (21 + 2 * k) 0))

/-- A merged entry adds its masked set to the kept entry of its address (R187). -/
def mergeKept (kept : List (Byte × PortSet)) (address : Byte) (ports : PortSet) : List (Byte × PortSet) :=
  kept.map fun k => if k.1 = address then (k.1, PortSet.union k.2 ports) else k

/-- One pre-attach entry taken: unused, dropped, merged or kept (R187). The Bool marks the load as adjusted. -/
def takePreAttach (openSet : PortSet) (acc : List (Byte × PortSet) × Bool) (e : Byte × PortSet) :
    List (Byte × PortSet) × Bool :=
  let masked := PortSet.inter e.2 openSet
  if e.1 = 0 ∧ PortSet.isEmpty e.2 = true then acc
  else if stationAddress e.1 = false ∨ PortSet.isEmpty masked = true then (acc.1, true)
  else if acc.1.any (fun k => k.1 == e.1) then (mergeKept acc.1 e.1 masked, true)
  else (acc.1 ++ [(e.1, masked)], acc.2)

/-- The pre-attach entries settled (R187). -/
def settlePreAttach (openSet : PortSet) (entries : List (Byte × PortSet)) : List (Byte × PortSet) × Bool :=
  entries.foldl (takePreAttach openSet) ([], false)

end Sys2Proof.Machine
end

