-- ==== Sys2Proof/Machine/Flags.lean ====
section
/-! DEFINITION. Every flag of the ports: the sticky and level notices (R172-R174), the two outputs (R176, R177) and the
status word (R178, R196). -/

namespace Sys2Proof.Machine

open Sys2Proof

/-! ### Sticky flags -/

/-- CLEAR: each sticky flag named in the flag set is cleared; bits 0 and 1 are passed over (R172, R196). -/
def Sticky.cleared (f : Sticky) (flags : Byte) : Sticky where
  changed := f.changed && !flags.getLsbD 2
  broken := f.broken && !flags.getLsbD 3
  refused := f.refused && !flags.getLsbD 4
  overrun := f.overrun && !flags.getLsbD 5
  config := f.config && !flags.getLsbD 6
  wake := f.wake && !flags.getLsbD 7

/-- FORCE: each sticky flag named in the flag set is set; bits 0 and 1 are passed over (R172, R196). -/
def Sticky.forced (f : Sticky) (flags : Byte) : Sticky where
  changed := f.changed || flags.getLsbD 2
  broken := f.broken || flags.getLsbD 3
  refused := f.refused || flags.getLsbD 4
  overrun := f.overrun || flags.getLsbD 5
  config := f.config || flags.getLsbD 6
  wake := f.wake || flags.getLsbD 7

/-- A CLOSE or a warm restart clears every sticky flag but WAKE (R170, R180). -/
def Sticky.onlyWake (f : Sticky) : Sticky := { Sticky.allClear with wake := f.wake }

/-- Bits 13-8 of the status word (Section 10.6). -/
def Sticky.bits (f : Sticky) : BitVec 6 :=
  BitVec.ofBool f.wake ++ BitVec.ofBool f.config ++ BitVec.ofBool f.overrun ++ BitVec.ofBool f.refused
    ++ BitVec.ofBool f.broken ++ BitVec.ofBool f.changed

namespace PortUnit

/-! ### Level flags (R173) and the set of all eight flags -/

def completeFlag (u : PortUnit) : Bool := !u.completions.isEmpty

def reportFlag (u : PortUnit) : Bool := !u.reports.isEmpty

/-- The eight flags in the bit order of the mask (Section 10.6). -/
def flags (u : PortUnit) : Byte :=
  u.sticky.bits ++ BitVec.ofBool u.reportFlag ++ BitVec.ofBool u.completeFlag

/-! ### Outputs -/

/-- R176: OPEN, and a flag both set and in the mask. -/
def interrupt (u : PortUnit) : Bool := decide (u.state = .opened) && decide (u.flags &&& u.mask ≠ 0)

/-- R177: DOZING with WAKE set; the mask is not consulted. -/
def wakeOut (u : PortUnit) : Bool := decide (u.state = .dozing) && u.sticky.wake

end PortUnit

/-- The interrupt output of a port; deasserted while a warm restart runs (R176, R180). -/
def State.interruptOutput (s : State) (p : Port) : Bool := decide (s.run ≠ .restarting) && (s.ports.get p).interrupt

/-- The wake output of a port; deasserted while a warm restart runs (R177, R180). -/
def State.wakeOutput (s : State) (p : Port) : Bool := decide (s.run ≠ .restarting) && (s.ports.get p).wakeOut

/-- LINEDE: asserted in DRIVING (R4). -/
def LineInterface.driverEnable (l : LineInterface) : Bool :=
  match l.tx with
  | .driving _ => true
  | _ => false

/-! ### The status word -/

def PortState.code : PortState → BitVec 2
  | .closed => 0
  | .opened => 1
  | .dozing => 2
  | .closing => 3

/-- The credit byte of R196. -/
def creditByte (credits completions : Nat) : Byte :=
  if credits = 16 then 0xFF
  else if completions = 16 then 0xFE
  else BitVec.ofNat 4 credits ++ BitVec.ofNat 4 completions

/-- The status word of a port (R178; Section 10.6). LOADING is set while the load runs (R181). -/
def State.statusWord (s : State) (p : Port) : Word :=
  let u := s.ports.get p
  (u.state.code ++ BitVec.ofBool (decide (s.run = .loading)) ++ BitVec.ofBool u.restarted
    ++ BitVec.ofNat 6 u.reports.length ++ creditByte u.credits u.completions.length ++ u.sticky.bits ++ u.mask
    : BitVec 32)

end Sys2Proof.Machine
end

