-- ==== Sys2Proof/Machine/Ops.lean ====
section
/-! DEFINITION. The named operations on the state that every block uses: Port Units, the Line Interface's transmitter,
station entries, and the places of the two outgoing queues. -/

namespace Sys2Proof.Machine

open Sys2Proof

/-! ### Port Units -/

def State.port (s : State) (p : Port) : PortUnit := s.ports.get p

def State.setPort (s : State) (p : Port) (u : PortUnit) : State := { s with ports := s.ports.set p u }

def State.updPort (s : State) (p : Port) (f : PortUnit → PortUnit) : State := s.setPort p (f (s.port p))

/-- A change made on every port. -/
def State.updPorts (s : State) (f : Port → PortUnit → PortUnit) : State :=
  { s with ports := Quad.ofFn fun p => f p (s.port p) }

/-- A notice handed to each port of a set (R174). -/
def State.notice (s : State) (ports : PortSet) (f : Sticky → Sticky) : State :=
  s.updPorts fun p u => if ports.get p then { u with sticky := f u.sticky } else u

def Sticky.setChanged (f : Sticky) : Sticky := { f with changed := true }
def Sticky.setBroken (f : Sticky) : Sticky := { f with broken := true }
def Sticky.setRefused (f : Sticky) : Sticky := { f with refused := true }
def Sticky.setOverrun (f : Sticky) : Sticky := { f with overrun := true }
def Sticky.setConfig (f : Sticky) : Sticky := { f with config := true }
def Sticky.setWake (f : Sticky) : Sticky := { f with wake := true }

/-- OPEN or DOZING: the states that admit submissions and are handed OVERRUN (R145, R96, R166). -/
def PortState.admits : PortState → Bool
  | .opened => true
  | .dozing => true
  | .closed => false
  | .closing => false

/-- A completion record joins the tail of the completion queue (R161). -/
def PortUnit.place (u : PortUnit) (c : Completion) : PortUnit := { u with completions := u.completions ++ [c] }

/-- A request at the head ends with a completion record: it leaves the queue and the record is placed (R147, R161). -/
def PortUnit.endHead (u : PortUnit) (c : Completion) : PortUnit :=
  match u.queue with
  | [] => u
  | _ :: rest => { (u.place c) with queue := rest, headMark := .none }

/-- The head request becomes the request in flight (R90). -/
def PortUnit.takeHead (u : PortUnit) : PortUnit :=
  match u.queue with
  | [] => u
  | r :: rest => { u with queue := rest, headMark := .none, inFlight := some r }

/-- The request in flight ends with a completion record (R73). -/
def PortUnit.endFlight (u : PortUnit) (c : Completion) : PortUnit :=
  match u.inFlight with
  | none => u
  | some _ => { (u.place c) with inFlight := none }

/-- The request in flight ends without a record and its credit returns (R163, R171, R148). -/
def PortUnit.dropFlight (u : PortUnit) : PortUnit :=
  match u.inFlight with
  | none => u
  | some _ => { u with inFlight := none, credits := u.credits + 1 }

/-- A line request stands at the head of the port's queue. -/
def State.headIsLine (s : State) (p : Port) : Bool :=
  match (s.port p).queue with
  | [] => false
  | r :: _ => r.isLine

/-! ### Station entries -/

/-- The entry in a slot: none when the slot is FREE (R27). -/
def State.entry (s : State) (k : Nat) : Option Entry := s.table.getD k none

def State.setEntry (s : State) (k : Nat) (e : Option Entry) : State := { s with table := s.table.set k e }

/-- A change of the entry in slot k, none when the slot is FREE. -/
def State.updEntry (s : State) (k : Nat) (f : Entry → Entry) : State :=
  match s.entry k with
  | none => s
  | some e => s.setEntry k (some (f e))

/-- The slot in use that holds an address (R27). -/
def State.slotOf (s : State) (a : Byte) : Option Nat :=
  s.table.findIdx? fun o => match o with
    | some e => e.address == a
    | none => false

/-- The entry in use that holds an address (R27). -/
def State.entryOf (s : State) (a : Byte) : Option Entry :=
  match s.slotOf a with
  | some k => s.entry k
  | none => none

/-- The lowest-numbered FREE slot (R29). -/
def State.freeSlot (s : State) : Option Nat := s.table.findIdx? fun o => o.isNone

/-! ### The transmitter -/

/-- The transmitter goes to DRIVING: LINEDE is asserted, the receiver closed, the idle count 0 (R2, R4). -/
def LineInterface.drive (l : LineInterface) (frame : List Byte) : LineInterface :=
  { l with tx := .driving (frameBits frame), rx := .closed, idle := 0 }

/-- A frame given to the Line Interface: it goes at once to DRIVING when the idle count stands at 44, and waits
otherwise (R3). -/
def LineInterface.give (l : LineInterface) (frame : List Byte) : LineInterface :=
  if l.idle = Config.frameGap then l.drive frame else { l with tx := .waiting frame }

/-- The release at the end of a frame: the receiver opens in HUNTING and the idle count starts from 0 (R4). -/
def LineInterface.release (l : LineInterface) : LineInterface := { l with tx := .released, rx := .hunting, idle := 0 }

/-- The Line Interface stopped: transmitter RELEASED, receiver closed (R9). -/
def LineInterface.stopped (l : LineInterface) : LineInterface := { l with tx := .released, rx := .closed, idle := 0 }

/-- The line enabled: receiver HUNTING, idle count 0 (R9). -/
def LineInterface.enabled (l : LineInterface) : LineInterface := { l with tx := .released, rx := .hunting, idle := 0 }

/-- The receiver stands in COLLECTING, HELD or DISCARDING. -/
def Receiver.midFrame : Receiver → Bool
  | .collecting _ => true
  | .held _ => true
  | .discarding => true
  | .closed => false
  | .hunting => false

/-- n bit times of a line that is not driven: the idle count rises to 44 and holds there, unless the line is low
(R2). -/
def LineInterface.elapse (l : LineInterface) (n : Nat) : LineInterface :=
  if l.low then { l with idle := 0 } else { l with idle := min Config.frameGap (l.idle + n) }

/-- n bit times of the two timers of the exchange record (R55, R68). -/
def Exchange.elapse (x : Exchange) (n : Nat) : Exchange :=
  { x with replyTimer := x.replyTimer.map (· - n), holdoffTimer := x.holdoffTimer.map (· - n) }

/-- n bit times pass for the idle count and the timers (R2, R55, R68). -/
def State.elapse (s : State) (n : Nat) : State :=
  { s with line := s.line.elapse n, exchange := s.exchange.map (·.elapse n) }

end Sys2Proof.Machine
end

