-- ==== Sys2Proof/Machine/WatchUnit.lean ====
section
/-! DEFINITION. The Watch Unit (Chapter 5): arming, breaking, aging and emptying of the sixteen slots. -/

namespace Sys2Proof.Machine

open Sys2Proof

/-- The last point of a range (R99). -/
def rangeLast (first : Half) (count : Nat) : Nat := first.toNat + count - 1

/-- Two ranges intersect when at least one point lies in both (R99). -/
def rangesIntersect (first : Half) (count : Nat) (first' : Half) (count' : Nat) : Bool :=
  decide (first.toNat ≤ rangeLast first' count') && decide (first'.toNat ≤ rangeLast first count)

/-- The first range lies within the second (R99). -/
def rangeWithin (first : Half) (count : Nat) (first' : Half) (count' : Nat) : Bool :=
  decide (first'.toNat ≤ first.toNat) && decide (rangeLast first count ≤ rangeLast first' count')

/-- The watched range contains a point (R108). -/
def Cover.contains (c : Cover) (point : Half) : Bool :=
  decide (c.first.toNat ≤ point.toNat) && decide (point.toNat ≤ rangeLast c.first c.count)

/-- A watch slot of a port. -/
def State.watch (s : State) (p : Port) (k : WatchNo) : Watch := (s.watches.get p).get k

def State.setWatch (s : State) (p : Port) (k : WatchNo) (w : Watch) : State :=
  { s with watches := s.watches.set p ((s.watches.get p).set k w) }

/-- A slot becomes EMPTY with the values of R99 (R101, R112, R115, R117). -/
def State.emptyWatch (s : State) (p : Port) (k : WatchNo) : State := s.setWatch p k Watch.emptySlot

/-- All four slots of a port become EMPTY (R119). -/
def State.emptyWatches (s : State) (p : Port) : State :=
  { s with watches := s.watches.set p (Quad.fill Watch.emptySlot) }

/-- The watch names a station. -/
def Watch.names (w : Watch) (a : Byte) : Bool :=
  match w.cover with
  | some c => c.station == a
  | Option.none => false

/-- Every slot of a port that names a station becomes EMPTY (R118). -/
def State.emptyWatchesOn (s : State) (p : Port) (a : Byte) : State :=
  let kept := (s.watches.get p).map fun w => if w.names a then Watch.emptySlot else w
  { s with watches := s.watches.set p kept }

/-- The arming of a slot (R102). -/
def armedWatch (lifetime : Nat) (a : Byte) (first : Half) (count : Nat) (notify : Bool) : Watch where
  state := .armed
  cover := some ⟨a, first, count⟩
  notify := notify
  life := if lifetime = 0 then .unlimited else .ticks lifetime
  cause := .none

/-- A break claim finds this watch: ARMED, and its cover is hit (R104). -/
def Watch.hitBy (w : Watch) (hit : Cover → Bool) : Bool :=
  decide (w.state = .armed) && (match w.cover with
    | some c => hit c
    | Option.none => false)

/-- A break moves a slot from ARMED to BROKEN and records its cause; the other fields are kept (R104). -/
def Watch.breakBy (w : Watch) (hit : Cover → Bool) (cause : BreakCause) : Watch :=
  if w.hitBy hit then { w with state := .broken, cause := cause } else w

/-- Whether some watch of a port satisfies a test that takes its number. -/
def State.anyWatch (s : State) (p : Port) (f : WatchNo → Watch → Bool) : Bool :=
  f 0 (s.watch p 0) || f 1 (s.watch p 1) || f 2 (s.watch p 2) || f 3 (s.watch p 3)

/-- One break claim: every ARMED watch that is hit becomes BROKEN, and the BROKEN notice is handed once to each port
that owns such a watch with notify set (R100, R104). `spare` is a slot left out: a CWRITE's own (R106). -/
def State.breakWatches (s : State) (hit : Cover → Bool) (cause : BreakCause) (spare : Option (Port × WatchNo)) :
    State :=
  let spared (p : Port) (k : WatchNo) : Bool := spare == some (p, k)
  let told : PortSet := Quad.ofFn fun p => s.anyWatch p fun k w => !spared p k && w.notify && w.hitBy hit
  let after : Quad (Quad Watch) := Quad.ofFn fun p => Quad.ofFn fun k =>
    if spared p k then s.watch p k else (s.watch p k).breakBy hit cause
  { s.notice told Sticky.setBroken with watches := after }

/-- The claim of an accepted write on a station (R105, R106). -/
def hitsWrite (a : Byte) (first : Half) (count : Nat) (c : Cover) : Bool :=
  (c.station == a) && rangesIntersect first count c.first c.count

/-- The claim of a broadcast, on any station (R107). -/
def hitsBroadcast (first : Half) (count : Nat) (c : Cover) : Bool := rangesIntersect first count c.first c.count

/-- The claim of an accepted report (R108). -/
def hitsReport (a : Byte) (items : List Item) (c : Cover) : Bool :=
  (c.station == a) && items.any fun i => c.contains i.point

/-- The claim of a station gone OFFLINE (R109). -/
def hitsStation (a : Byte) (c : Cover) : Bool := c.station == a

/-- The watch expires at a poll tick: ARMED, with a finite life that reaches 0 (R110). -/
def Watch.expires (w : Watch) : Bool :=
  decide (w.state = .armed) && (match w.life with
    | .ticks n => decide (n ≤ 1)
    | .unlimited => false)

/-- The aging of one slot at a poll tick (R110). -/
def Watch.age (w : Watch) : Watch :=
  match w.state, w.life with
  | .armed, .ticks n =>
    if n ≤ 1 then { w with state := .broken, cause := .expired, life := .ticks 0 }
    else { w with life := .ticks (n - 1) }
  | _, _ => w

/-- The poll tick taken by the Watch Unit (R110): all slots age in one change, and each port that owns an expired
watch with notify set is handed BROKEN once (R100). -/
def State.ageWatches (s : State) : State :=
  let told : PortSet := Quad.ofFn fun p => s.anyWatch p fun _ w => w.notify && w.expires
  { s.notice told Sticky.setBroken with watches := s.watches.map fun q => q.map Watch.age }

/-- One slot whose life reaches 0 at a poll tick (R110): the claim of the poll tick on that slot alone. -/
def State.expireWatch (s : State) (p : Port) (k : WatchNo) : State :=
  let w := s.watch p k
  if decide (w.state = .armed) && decide (w.life = .ticks 1) then
    let s := s.setWatch p k w.age
    if w.notify then s.notice (PortSet.single p) Sticky.setBroken else s
  else s

end Sys2Proof.Machine
end

