-- ==== Sys2Proof/Machine/StationTable.lean ====
section
/-! DEFINITION. The Station Table (Chapter 2): creation, attachment, freeing, the station state machine, toggles, and
the poll tick's countdowns. -/

namespace Sys2Proof.Machine

open Sys2Proof

/-- The values of an entry at its creation (R28). -/
def newEntry (a : Byte) (ports : PortSet) : Entry where
  address := a
  state := .probing
  attached := ports
  toggle := none
  ack := true
  capable := false
  highest := 0
  failures := 0
  countdown := 0
  gaps := PortSet.empty
  changed := PortSet.empty

/-- A probe or reprobe joins the tail of the service list (R81). -/
def State.appendService (s : State) (item : ServiceItem) : State :=
  { s with arbiter := { s.arbiter with serviceList := s.arbiter.serviceList ++ [item] } }

/-- Creation in a slot: the entry of R28, and its probe at the tail of the service list. -/
def State.createEntry (s : State) (k : Nat) (a : Byte) (ports : PortSet) : State :=
  (s.setEntry k (some (newEntry a ports))).appendService ⟨k, a, .probe⟩

/-- The creation of a pre-attached entry in the lowest FREE slot (R30); an address already held is passed over. -/
def State.preAttach (s : State) (kept : Byte × PortSet) : State :=
  match s.slotOf kept.1, s.freeSlot with
  | none, some k => s.createEntry k kept.1 kept.2
  | _, _ => s

/-- What the table hands back to an ATTACH (R29). -/
inductive AttachAnswer where
  | created
  | joined (state : StationState)
  | full
  | already (state : StationState)
deriving DecidableEq, Repr

/-- The ATTACH claim of port p for address a (R29). -/
def State.attachClaim (s : State) (p : Port) (a : Byte) : State × AttachAnswer :=
  match s.slotOf a with
  | none =>
    match s.freeSlot with
    | none => (s, .full)
    | some k => (s.createEntry k a (PortSet.single p), .created)
  | some k =>
    match s.entry k with
    | none => (s, .full)
    | some e =>
      if e.attached.get p then (s, .already e.state)
      else (s.setEntry k (some { e with attached := e.attached.set p true }), .joined e.state)

/-- A change of the state field of an entry (R37): every attached port joins the changed set and is handed CHANGED. A
state that stays the same is no change. -/
def State.changeState (s : State) (k : Nat) (state : StationState) : State :=
  match s.entry k with
  | none => s
  | some e =>
    if e.state = state then s
    else
      (s.setEntry k (some { e with state := state, changed := PortSet.union e.changed e.attached })).notice
        e.attached Sticky.setChanged

/-- Freeing (R44): the entry's probe or reprobe leaves the service list, an exchange in flight to it is orphaned
(R45), and the slot becomes FREE. -/
def State.freeEntry (s : State) (k : Nat) : State :=
  { s with
    table := s.table.set k none
    exchange := s.exchange.map fun x => if x.slot = some k then { x with orphan := true } else x
    arbiter := { s.arbiter with serviceList := s.arbiter.serviceList.filter fun i => i.slot != k } }

/-- The port leaves the entry in slot k (R43): it leaves the attached set, the changed set and the gap marks, its watch
slots on the entry are emptied (R118), and an entry left with no port is freed (R44). -/
def State.leaveEntry (s : State) (p : Port) (k : Nat) : State :=
  match s.entry k with
  | none => s
  | some e =>
    if e.attached.get p then
      let e' := { e with
        attached := PortSet.remove e.attached p
        changed := PortSet.remove e.changed p
        gaps := PortSet.remove e.gaps p }
      let s := (s.setEntry k (some e')).emptyWatchesOn p e.address
      if PortSet.isEmpty e'.attached then s.freeEntry k else s
    else s

/-- A CLOSE detaches the port from every entry, in slot order (R46). -/
def State.leaveAll (s : State) (p : Port) : State :=
  (List.range s.table.length).foldl (fun s k => s.leaveEntry p k) s

/-- A heard claim on the entry in slot k (R31). -/
def State.heard (s : State) (k : Nat) : State :=
  match s.entry k with
  | none => s
  | some e =>
    match e.state with
    | .online => s.setEntry k (some { e with failures := 0 })
    | .suspect => (s.setEntry k (some { e with failures := 0 })).changeState k .online
    | .probing => s
    | .offline => s

/-- A failed exchange on an entry in ONLINE or SUSPECT (R32, R33): the failure count rises by 1; at the threshold the
entry goes OFFLINE, its watches are broken and the countdown is loaded. After a WRITE frame the toggle is UNKNOWN. -/
def State.countFailure (s : State) (k : Nat) (e : Entry) (sentWrite : Bool) : State :=
  let params := s.loader.params
  let e := { e with failures := e.failures + 1, toggle := if sentWrite then none else e.toggle }
  if e.failures = params.failureThreshold then
    ((s.setEntry k (some { e with toggle := none, countdown := params.reprobeInterval })).changeState k .offline).breakWatches
      (hitsStation e.address) .offline none
  else (s.setEntry k (some e)).changeState k .suspect

/-- How an exchange ended, as its outcome reaches the other blocks (R69): the status with the detail of REFUSED, the
PONG's fields, the values of a READ, the T and items of a new report, and its more-pending bit. -/
structure Final where
  status : Status
  detail : BitVec 4 := 0
  pong : Option (Bool × Half) := none
  values : List Half := []
  report : Option (Bool × List Item) := none
  more : Bool := false
deriving DecidableEq, Repr

/-- The exchange sent an addressed WRITE frame (R38). -/
def Exchange.sentWrite (x : Exchange) : Bool := decide (x.kind = .write) || decide (x.kind = .cwriteAsWrite)

/-- The entry after a probe that ended OK (R34). -/
def Entry.probed (e : Entry) (pong : Bool × Half) : Entry :=
  { e with toggle := some false, ack := true, capable := pong.1, highest := pong.2, failures := 0 }

/-- The entry after a reprobe that ended OK: the report ack bit is kept (R36). -/
def Entry.reprobed (e : Entry) (pong : Bool × Half) : Entry :=
  { e with toggle := some false, capable := pong.1, highest := pong.2, failures := 0 }

/-- The end of a probe at the table (R34). -/
def State.probeEnd (s : State) (k : Nat) (o : Final) : State :=
  match o.status with
  | .ok => (s.updEntry k (·.probed (o.pong.getD (false, 0)))).changeState k .online
  | _ => (s.updEntry k ({ · with countdown := s.loader.params.reprobeInterval })).changeState k .offline

/-- The end of a reprobe at the table (R36). -/
def State.reprobeEnd (s : State) (k : Nat) (o : Final) : State :=
  match o.status with
  | .ok => (s.updEntry k (·.reprobed (o.pong.getD (false, 0)))).changeState k .online
  | _ => s.updEntry k ({ · with countdown := s.loader.params.reprobeInterval })

/-- The entry after an exchange other than a probe or reprobe that ended OK: the toggle flips after a WRITE frame and
is 0 after a resync (R38); the report ack bit takes the T of a new report (R40). -/
def Entry.exchangeOk (e : Entry) (x : Exchange) (o : Final) : Entry :=
  { e with
    toggle :=
      if x.sentWrite then x.toggleSent.map (fun t => !t)
      else if x.purpose = .resync then some false else e.toggle
    ack := match o.report with
      | some (t, _) => t
      | none => e.ack }

/-- The final outcome of an exchange other than a probe or reprobe (R32): it acts on an entry in ONLINE or SUSPECT. -/
def State.outcomeClaim (s : State) (k : Nat) (x : Exchange) (o : Final) : State :=
  match s.entry k with
  | none => s
  | some e =>
    if e.state = .online ∨ e.state = .suspect then
      match o.status with
      | .ok => s.setEntry k (some (e.exchangeOk x o))
      | .noResponse => s.countFailure k e x.sentWrite
      | .badReply => s.countFailure k e x.sentWrite
      | _ => s
    else s

/-- The Station Table takes the end of an exchange whose orphan flag is clear (R70). -/
def State.tableTakesEnd (s : State) (x : Exchange) (o : Final) : State :=
  match x.slot with
  | none => s
  | some k =>
    match x.purpose with
    | .probe => s.probeEnd k o
    | .reprobe => s.reprobeEnd k o
    | .resync => s.outcomeClaim k x o
    | .poll => s.outcomeClaim k x o
    | .request => s.outcomeClaim k x o

/-- An entry in OFFLINE with a countdown above 0 (R35). -/
def Entry.counting (e : Entry) : Bool := decide (e.state = .offline) && decide (0 < e.countdown)

/-- The poll tick on one slot (R35). -/
def countDown (o : Option Entry) : Option Entry :=
  o.map fun e => if e.counting then { e with countdown := e.countdown - 1 } else e

/-- The slots whose countdown reaches 0 at the next poll tick (R35). -/
def State.reprobesDue (s : State) : List Nat :=
  (List.range s.table.length).filter fun k =>
    match s.entry k with
    | some e => decide (e.state = .offline) && decide (e.countdown = 1)
    | none => false

/-- A reprobe joins the service list for the OFFLINE entry whose countdown has reached 0 (R35). -/
def State.appendReprobe (s : State) (k : Nat) : State :=
  match s.entry k with
  | none => s
  | some e =>
    if e.state = .offline ∧ e.countdown = 0 then s.appendService ⟨k, e.address, .reprobe⟩ else s

/-- An entry at warm restart (R51). -/
def Entry.restarted (interval : Nat) (e : Entry) : Entry :=
  { e with
    toggle := none
    gaps := PortSet.empty
    countdown := if e.state = .offline ∧ e.countdown = 0 then interval else e.countdown }

/-- The probes of the entries in PROBING, in slot order (R98). -/
def probesOf (table : List (Option Entry)) : List ServiceItem :=
  (List.range table.length).filterMap fun k =>
    match table.getD k none with
    | some e => if e.state = .probing then some ⟨k, e.address, .probe⟩ else none
    | none => none

end Sys2Proof.Machine
end

