-- ==== Sys2Proof/Machine/ReportRouter.lean ====
section
/-! DEFINITION. The Report Router (Chapter 6): filters, wake patterns, and the routing of an accepted report. -/

namespace Sys2Proof.Machine

open Sys2Proof

/-- The filter's verdict on an item of a station (R126). -/
def Routing.accepts (r : Routing) (station : Byte) (i : Item) : Bool :=
  match r.mode with
  | .none => false
  | .exact => r.keys.contains (itemKey station i.point)
  | .hashed => r.hash.getLsbD (hashIndex (itemKey station i.point))
  | .all => true

/-- A wake pattern matches an item (R128). -/
def WakePattern.matchesItem (w : WakePattern) (station : Byte) (i : Item) : Bool :=
  w.enabled && (w.station == station) && (w.point == i.point) && ((i.value &&& w.mask) == w.compare)

/-- One or more patterns match one or more items (R128). -/
def Routing.wakes (r : Routing) (station : Byte) (items : List Item) : Bool :=
  items.any fun i => r.patterns.toList.any fun w => w.matchesItem station i

/-- What the routing of a report does to the gap mark of one port (R130): its new value. -/
def gapAfter (r : Routing) (u : PortUnit) (station : Byte) (items : List Item) (gap : Bool) : Bool :=
  if (items.filter (r.accepts station)).isEmpty then gap
  else decide (Config.reportPlaces ≤ u.reports.length)

/-- What the routing of a report does to one port: the WAKE notice on a match (R128), and the ITEMS record of the
accepted items at the tail of a queue that has room (R129, R130). -/
def PortUnit.routed (u : PortUnit) (r : Routing) (station : Byte) (items : List Item) (gap : Bool) : PortUnit :=
  let accepted := items.filter (r.accepts station)
  let u := if r.wakes station items then { u with sticky := u.sticky.setWake } else u
  if accepted.isEmpty then u
  else if u.reports.length < Config.reportPlaces then { u with reports := u.reports ++ [⟨station, gap, accepted⟩] }
  else u

/-- The routing change of an accepted report (R122): the breaks of cause REPORT (R108), then each attached port's wake
patterns and record, or its gap mark (R127). -/
def State.route (s : State) (k : Nat) (station : Byte) (items : List Item) : State :=
  match s.entry k with
  | none => s
  | some e =>
    let gaps : PortSet := Quad.ofFn fun p =>
      if e.attached.get p then gapAfter (s.routing.get p) (s.port p) station items (e.gaps.get p) else e.gaps.get p
    ((s.breakWatches (hitsReport station items) .report none).updPorts fun p u =>
        if e.attached.get p then u.routed (s.routing.get p) station items (e.gaps.get p) else u).updEntry k
      ({ · with gaps := gaps })

/-- The end of an exchange at the Router: a new report of a POLL whose orphan flag is clear (R72, R121). -/
def State.routerTakesEnd (s : State) (x : Exchange) (o : Final) : State :=
  match x.slot, o.report with
  | some k, some (_, items) => s.route k x.address items
  | _, _ => s

/-! ### FILTER and WAKESET (R133-R139) -/

def State.setRouting (s : State) (p : Port) (r : Routing) : State := { s with routing := s.routing.set p r }

/-- LIST_ADD (R135). -/
def Routing.addKey (r : Routing) (k : Key) : Routing × Status :=
  if r.keys.contains k then (r, .already)
  else if Config.listKeys ≤ r.keys.length then (r, .tableFull)
  else ({ r with keys := r.keys ++ [k] }, .ok)

/-- LIST_REMOVE (R135). -/
def Routing.removeKey (r : Routing) (k : Key) : Routing × Status :=
  if r.keys.contains k then ({ r with keys := r.keys.erase k }, .ok) else (r, .already)

/-- HASH_SET (R136). -/
def Routing.setHash (r : Routing) (k : Key) : Routing := { r with hash := r.hash ||| BitVec.twoPow 512 (hashIndex k) }

/-- HASH_CLEAR (R136). -/
def Routing.clearHash (r : Routing) (k : Key) : Routing :=
  { r with hash := r.hash &&& ~~~(BitVec.twoPow 512 (hashIndex k)) }

/-- CLEAR_ALL: the filter is cleared, the wake patterns are kept (R137). -/
def Routing.clearFilter (r : Routing) : Routing := { r with mode := .none, keys := [], hash := 0 }

/-- The key a FILTER carries (R193), none when its address or its group is out of range (R133). -/
def Request.filterKey (r : Request) : Option Key :=
  if stationAddress r.second = true ∧ r.low.toNat ≤ 4095 then some ⟨r.second, r.low⟩ else none

/-- A FILTER executed on its port's routing state: the checks of R133, then its sub-operation. -/
def Routing.filter (f : Routing) (r : Request) : Routing × Status :=
  if r.wrongLength 2 then (f, .badReq)
  else if r.top = 1 then
    match filterMode r.second with
    | some m => ({ f with mode := m }, .ok)
    | none => (f, .badReq)
  else if r.top = 2 then
    match r.filterKey with
    | some k => f.addKey k
    | none => (f, .badReq)
  else if r.top = 3 then
    match r.filterKey with
    | some k => f.removeKey k
    | none => (f, .badReq)
  else if r.top = 4 then
    match r.filterKey with
    | some k => (f.setHash k, .ok)
    | none => (f, .badReq)
  else if r.top = 5 then
    match r.filterKey with
    | some k => (f.clearHash k, .ok)
    | none => (f, .badReq)
  else if r.top = 6 then (f.clearFilter, .ok)
  else (f, .badReq)

/-- The pattern a WAKESET carries (R139, R193). -/
def Request.pattern (r : Request) : WakePattern where
  enabled := r.word1.getLsbD 27
  station := r.second
  point := r.low
  mask := r.word2.extractLsb' 16 16
  compare := r.word2.extractLsb' 0 16

/-- The pattern number, the whole of bits 31-28 (R193). -/
def Request.patternNumber (r : Request) : Nat := (r.word1.extractLsb' 28 4).toNat

/-- The checks of a WAKESET (R139). -/
def Request.wakesetBad (r : Request) : Bool :=
  r.wrongLength 3 || decide (3 < r.patternNumber)
    || (r.pattern.enabled && !stationAddress r.pattern.station)

/-- A WAKESET executed on its port's patterns (R139). -/
def Routing.wakeset (f : Routing) (r : Request) : Routing × Status :=
  if r.wakesetBad then (f, .badReq)
  else ({ f with patterns := f.patterns.set (Fin.ofNat 4 r.patternNumber) r.pattern }, .ok)

end Sys2Proof.Machine
end

