-- ==== Sys2Proof/Machine/Engine.lean ====
section
/-! DEFINITION. The start of an exchange (R53, R90): the record is filled, the frame is built and given to the Line
Interface. -/

namespace Sys2Proof.Machine

open Sys2Proof

/-- The exchange enters the record in SENDING and its frame is given to the Line Interface (R53, R54). -/
def State.startExchange (s : State) (x : Exchange) : State :=
  { s with exchange := some x, line := s.line.give x.frame }

/-- A record as it stands at the start of any exchange (R53). -/
def freshExchange : Exchange where
  origin := .internal
  purpose := .request
  kind := .read
  slot := none
  address := 0
  frame := []
  toggleSent := none
  ackSent := none
  attempt := 1
  phase := .sending
  lastFailure := none
  buffer := []
  nextIndex := 0
  watchSlot := none
  orphan := false
  discard := false
  replyTimer := none
  holdoffTimer := none
  first := 0
  count := 0

/-- The PING exchange of a probe (V = 0, K = 0), a reprobe or a resync (V = 1, K the report ack bit) (R13, R53, R82,
R91). -/
def pingExchange (purpose : Purpose) (k : Nat) (e : Entry) : Exchange :=
  let a : AckSent := if purpose = .probe then ⟨false, false⟩ else ⟨e.ack, true⟩
  { freshExchange with
    purpose := purpose, kind := .ping, slot := some k, address := e.address, ackSent := some a
    frame := pingFrame e.address a }

/-- The POLL exchange of a slot (R17, R84). -/
def pollExchange (k : Nat) (e : Entry) : Exchange :=
  let a : AckSent := ⟨e.ack, true⟩
  { freshExchange with
    purpose := .poll, kind := .poll, slot := some k, address := e.address, ackSent := some a
    frame := pollFrame e.address a }

/-- The exchange of a READ request (R14, R90). -/
def readExchange (p : Port) (r : Request) (k : Nat) : Exchange :=
  { freshExchange with
    origin := .port p, kind := .read, slot := some k, address := r.top
    frame := readFrame r.top r.first r.count.toNat
    watchSlot := if r.watch then some r.slot else none
    first := r.first, count := r.count.toNat }

/-- The exchange of a WRITE to a station address, or of a CWRITE, with the known toggle t (R15, R65, R90). -/
def writeExchange (p : Port) (r : Request) (k : Nat) (t : Bool) : Exchange :=
  { freshExchange with
    origin := .port p, kind := if r.isCwrite then .cwriteAsWrite else .write
    slot := some k, address := r.top, toggleSent := some t
    frame := writeFrame r.top t r.first r.values
    watchSlot := if r.isCwrite then some r.slot else none
    first := r.first, count := r.count.toNat }

/-- The exchange of a WRITE to address 0 (R16, R68). -/
def broadcastExchange (p : Port) (r : Request) : Exchange :=
  { freshExchange with
    origin := .port p, kind := .broadcast, address := 0
    frame := writeFrame 0 false r.first r.values
    first := r.first, count := r.count.toNat }

/-- The start of a port's request (R90): it leaves the head and becomes the request in flight, u rises by 1, and its
exchange starts. A watched READ empties its slot in the same change (R101). -/
def State.startRequest (s : State) (p : Port) (r : Request) (x : Exchange) : State :=
  let s := if r.isWatchedRead then s.emptyWatch p r.slot else s
  let s := s.updPort p (·.takeHead)
  { s with arbiter := { s.arbiter with used := s.arbiter.used + 1, pairing := none } }.startExchange x

end Sys2Proof.Machine
end

