-- ==== Sys2Proof/Machine/LineArbiter.lean ====
section
/-! DEFINITION. The Line Arbiter (Chapter 4): the choice, the service list, the poll cycle, the port rotation, the start
checks and the resync pairing. -/

namespace Sys2Proof.Machine

open Sys2Proof

/-! ### The poll cycle -/

/-- The cursor advances by 1 and the burst ends; past slot 31 the cycle closes (R84, R85, R86). A closed cycle has its
cursor at 0 (log 15). -/
def Arbiter.advance (a : Arbiter) : Arbiter :=
  if a.cursor + 1 < Config.stationSlots then { a with cursor := a.cursor + 1, burstCount := 0, burstAddress := none }
  else { a with cycleOpen := false, cursor := 0, burstCount := 0, burstAddress := none }

/-- A cycle opens at slot 0 (R86). -/
def Arbiter.openCycle (a : Arbiter) : Arbiter :=
  { a with cycleOpen := true, cursor := 0, burstCount := 0, burstAddress := none }

/-- The slot at the cursor is pollable (R84). -/
def Arbiter.pollable (a : Arbiter) (e : Entry) : Bool :=
  (decide (e.state = .online) || decide (e.state = .suspect)) && e.capable
    && (decide (a.burstCount = 0) || (a.burstAddress == some e.address))

/-- The start of a POLL at the cursor (R84). -/
def State.startPoll (s : State) (e : Entry) : State :=
  let a := s.arbiter
  { s with arbiter := { a with burstCount := a.burstCount + 1, burstAddress := some e.address } }.startExchange
    (pollExchange a.cursor e)

/-- The cursor walk of an open cycle (R84): it starts a POLL or closes the cycle. `fuel` is the number of slots that may
still be examined. -/
def State.walkCursor (fuel : Nat) (s : State) : State :=
  match fuel with
  | 0 => s
  | fuel + 1 =>
    if s.arbiter.cycleOpen then
      match s.entry s.arbiter.cursor with
      | some e =>
        if s.arbiter.pollable e then s.startPoll e
        else State.walkCursor fuel { s with arbiter := s.arbiter.advance }
      | none => State.walkCursor fuel { s with arbiter := s.arbiter.advance }
    else s

/-- The more-pending bit at the end of a POLL (R85). -/
def Arbiter.pollEnded (a : Arbiter) (more : Bool) : Arbiter :=
  if more && decide (a.burstCount < Config.burstLimit) then a else a.advance

/-! ### The port rotation -/

/-- The port is eligible (R87): its head is a line request, not naming a station in PROBING. -/
def State.eligible (s : State) (p : Port) : Bool :=
  match (s.port p).queue with
  | [] => false
  | r :: _ =>
    r.isLine && (match s.entryOf r.top with
      | some e => decide (e.state ≠ .probing)
      | none => true)

/-- The search of R88 from port P with used-turn count u: the port served and the u it is served with. `n` examinations
are left: the first and four advances make five. -/
def rotate (eligible : Port → Bool) (weight : Port → Nat) : Nat → Port → Nat → Option (Port × Nat)
  | 0, _, _ => none
  | n + 1, p, u =>
    if eligible p && decide (u < weight p) then some (p, u) else rotate eligible weight n (p + 1) 0

/-! ### Start checks (R89, R149) and the watch checks (R111-R114) -/

/-- Checks 1 to 4 of R149: the status of the first that fails. -/
def State.startCheck (s : State) (p : Port) (r : Request) : Option Status :=
  if r.lineBad then some .badReq
  else if r.isBroadcast then none
  else
    match s.entryOf r.top with
    | none => some .notAttached
    | some e =>
      if e.attached.get p = false then some .notAttached
      else if e.state = .offline then some .offline
      else if e.highest.toNat < r.lastPoint then some .range
      else none

/-- The MISMATCH check of an ARMED slot (R113). -/
def Request.mismatches (r : Request) (w : Watch) : Bool :=
  match w.cover with
  | some c => (c.station != r.top) || !rangeWithin r.first r.count.toNat c.first c.count
  | none => true

/-- The Watch Unit's claim at the start of a CWRITE (R111): LOST and the slot emptied (R112), MISMATCH and the slot
kept (R113), or the slot committed (R114). -/
def State.watchCheck (s : State) (p : Port) (r : Request) : State × Option (Status × BitVec 4) :=
  let w := s.watch p r.slot
  if w.state ≠ .armed then (s.emptyWatch p r.slot, some (.lost, w.cause.code))
  else if r.mismatches w then (s, some (.mismatch, 0))
  else (s.setWatch p r.slot { w with state := .committing, cause := .none }, none)

/-- The start checks of port p's head request: the state they leave and, when one fails, the status and detail. -/
def State.checkHead (s : State) (p : Port) (r : Request) : State × Option (Status × BitVec 4) :=
  match s.startCheck p r with
  | some status => (s, some (status, 0))
  | none => if r.isCwrite then s.watchCheck p r else (s, none)

/-- The resync pairing of port p's head (R91): it stays at the head, marked PAIRED, and a resync PING starts. -/
def State.pair (s : State) (p : Port) (k : Nat) (e : Entry) : State :=
  let s := s.updPort p ({ · with headMark := .paired })
  { s with arbiter := { s.arbiter with pairing := some p } }.startExchange (pingExchange .resync k e)

/-- The head request of port p, which has passed its start checks, starts (R90), or is paired with a resync PING when
it is a WRITE or CWRITE to a station whose toggle is UNKNOWN (R91). -/
def State.startHead (s : State) (p : Port) (r : Request) : State :=
  if r.isBroadcast then s.startRequest p r (broadcastExchange p r)
  else
    match s.slotOf r.top with
    | none => s
    | some k =>
      match s.entry k with
      | none => s
      | some e =>
        if r.isRead then s.startRequest p r (readExchange p r k)
        else
          match e.toggle with
          | some t => s.startRequest p r (writeExchange p r k t)
          | none => s.pair p k e

/-- The start of a service list entry (R82). -/
def State.startService (s : State) (item : ServiceItem) (rest : List ServiceItem) : State :=
  let s := { s with arbiter := { s.arbiter with serviceList := rest } }
  match s.entry item.slot with
  | none => s
  | some e =>
    match item.purpose with
    | .probe => s.startExchange (pingExchange .probe item.slot e)
    | .reprobe => s.startExchange (pingExchange .reprobe item.slot e)

/-! ### The choice -/

/-- The port rotation (R88) and the service of the port it finds (R89, R90, R91). The Bool asks for a new choice: a
start check failed (R89). -/
def State.choosePort (s : State) : State × Bool :=
  match rotate s.eligible s.loader.params.weights.get 5 s.arbiter.pointer s.arbiter.used with
  | none => (s, false)
  | some (p, u) =>
    let s := { s with arbiter := { s.arbiter with pointer := p, used := u } }
    match (s.port p).queue with
    | [] => (s, false)
    | r :: _ =>
      match s.checkHead p r with
      | (s, some (status, detail)) => (s.updPort p (·.endHead (completionOf r status detail 0 [])), true)
      | (s, none) => (s.startHead p r, false)

/-- One choice of R80: the service list, then the poll cycle, then the ports. -/
def State.chooseOnce (s : State) : State × Bool :=
  match s.arbiter.serviceList with
  | item :: rest => (s.startService item rest, false)
  | [] =>
    let s := State.walkCursor (Config.stationSlots + 1) s
    match s.exchange with
    | some _ => (s, false)
    | none => s.choosePort

/-- All requests in the four queues. -/
def State.queued (s : State) : Nat :=
  (s.port 0).queue.length + (s.port 1).queue.length + (s.port 2).queue.length + (s.port 3).queue.length

/-- A choice and the new choices that failed start checks call for in the same change (R89). Each of these ends a
queued request, so `fuel` above their number is never spent. -/
def State.chooseAll (fuel : Nat) (s : State) : State :=
  match fuel with
  | 0 => s
  | fuel + 1 =>
    match s.chooseOnce with
    | (s, true) => State.chooseAll fuel s
    | (s, false) => s

/-- The Arbiter is called to a choice (R79): it makes one when the record is idle and neither the load nor a restart
runs. -/
def State.choice (s : State) : State :=
  if s.exchange = none ∧ s.run = .running then State.chooseAll (s.queued + 1) s else s

end Sys2Proof.Machine
end

