-- ==== Sys2Proof/Machine/LocalRequests.lean ====
section
/-! DEFINITION. The Port Unit's own work (Chapter 7): the execution of local requests at the head of a queue, and the
taking up of everything that one change leaves ready ("at once", R147, R79). -/

namespace Sys2Proof.Machine

open Sys2Proof

/-- What executing a local request gives: it completes, or it waits at the head on a probe (R154). `gained` says that
the service list has gained an entry (R79). -/
inductive LocalResult where
  | completes (s : State) (c : Completion)
  | waits (s : State) (gained : Bool)

/-- ATTACH (R153). -/
def State.doAttach (s : State) (p : Port) (r : Request) : LocalResult :=
  if r.wrongLength 2 || !stationAddress r.top then .completes s (completionOf r .badReq 0 0 [])
  else
    match s.attachClaim p r.top with
    | (s, .created) => .waits s true
    | (s, .joined .probing) => .waits s false
    | (s, .joined .offline) => .completes s (completionOf r .offline 0 0 [])
    | (s, .joined state) => .completes s (completionOf r .ok state.code 0 [])
    | (s, .full) => .completes s (completionOf r .tableFull 0 0 [])
    | (s, .already state) => .completes s (completionOf r .already state.code 0 [])

/-- DETACH (R155). -/
def State.doDetach (s : State) (p : Port) (r : Request) : LocalResult :=
  if r.wrongLength 2 || !stationAddress r.top then .completes s (completionOf r .badReq 0 0 [])
  else
    match s.slotOf r.top with
    | none => .completes s (completionOf r .notAttached 0 0 [])
    | some k =>
      match s.entry k with
      | none => .completes s (completionOf r .notAttached 0 0 [])
      | some e =>
        if e.attached.get p then .completes (s.leaveEntry p k) (completionOf r .ok e.state.code 0 [])
        else .completes s (completionOf r .notAttached 0 0 [])

/-- RELEASE (R117, R156): the detail is the cause the slot held. -/
def State.doRelease (s : State) (p : Port) (r : Request) : LocalResult :=
  if r.wrongLength 2 then .completes s (completionOf r .badReq 0 0 [])
  else .completes (s.emptyWatch p r.slot) (completionOf r .ok (s.watch p r.slot).cause.code 0 [])

/-- FILTER (R133-R137): its completion carries the mode and the number of keys as they stand after it. -/
def State.doFilter (s : State) (p : Port) (r : Request) : LocalResult :=
  let (f, status) := (s.routing.get p).filter r
  .completes (s.setRouting p f)
    { completionOf r status 0 0 [] with
      first := (f.mode.code.setWidth 16), count := BitVec.ofNat 8 f.keys.length }

/-- WAKESET (R139). -/
def State.doWakeset (s : State) (p : Port) (r : Request) : LocalResult :=
  let (f, status) := (s.routing.get p).wakeset r
  .completes (s.setRouting p f) (completionOf r status 0 0 [])

/-- QUERY STATION (R157). -/
def State.doQueryStation (s : State) (r : Request) : LocalResult :=
  if stationAddress r.second then
    match s.entryOf r.second with
    | some e => .completes s (completionOf r .ok 0 0 (stationWords e))
    | none => .completes s (completionOf r .notAttached 0 0 [])
  else .completes s (completionOf r .badReq 0 0 [])

/-- The addresses of the entries whose changed set holds the port, in slot order (R158). -/
def State.changedFor (s : State) (p : Port) : List Byte :=
  s.table.filterMap fun o => match o with
    | some e => if e.changed.get p then some e.address else none
    | none => none

/-- The port leaves every changed set (R158). -/
def State.clearChanged (s : State) (p : Port) : State :=
  { s with table := s.table.map fun o => o.map fun e => { e with changed := PortSet.remove e.changed p } }

/-- QUERY CHANGES (R158). -/
def State.doQueryChanges (s : State) (p : Port) (r : Request) : LocalResult :=
  .completes (s.clearChanged p) (completionOf r .ok 0 0 (packBytes (s.changedFor p)))

/-- QUERY WATCHES (R157, R194). -/
def State.doQueryWatches (s : State) (p : Port) (r : Request) : LocalResult :=
  .completes s (completionOf r .ok 0 0 ((s.watches.get p).toList.flatMap watchWords))

/-- QUERY LINE (R157). -/
def State.doQueryLine (s : State) (r : Request) : LocalResult :=
  .completes s (completionOf r .ok 0 0 (lineWords s.loader.params s.arbiter.overruns s.loader.result))

/-- QUERY (R157). -/
def State.doQuery (s : State) (p : Port) (r : Request) : LocalResult :=
  if r.wrongLength 2 then .completes s (completionOf r .badReq 0 0 [])
  else if r.top = 1 then s.doQueryStation r
  else if r.top = 2 then s.doQueryChanges p r
  else if r.top = 3 then s.doQueryWatches p r
  else if r.top = 4 then s.doQueryLine r
  else .completes s (completionOf r .badReq 0 0 [])

/-- MARK (R159). -/
def State.doMark (s : State) (r : Request) : LocalResult :=
  if r.wrongLength 2 then .completes s (completionOf r .badReq 0 0 [])
  else .completes s (completionOf r .ok 0 0 [])

/-- The execution of a local request by its kind; an unassigned kind completes BADREQ (R160). -/
def State.doLocal (s : State) (p : Port) (r : Request) : LocalResult :=
  if r.kind = reqAttach then s.doAttach p r
  else if r.kind = reqDetach then s.doDetach p r
  else if r.kind = reqRelease then s.doRelease p r
  else if r.kind = reqFilter then s.doFilter p r
  else if r.kind = reqWakeset then s.doWakeset p r
  else if r.kind = reqQuery then s.doQuery p r
  else if r.kind = reqMark then s.doMark r
  else .completes s (completionOf r .badReq 0 0 [])

/-- A local request at the head executes when the port has no request in flight (R147); an ATTACH that waits on a probe
does not execute again (R154). -/
def State.localReady (s : State) (p : Port) : Bool :=
  decide (s.run = .running) &&
    (match (s.port p).queue with
      | [] => false
      | r :: _ => !r.isLine && decide ((s.port p).headMark = .none) && (s.port p).inFlight.isNone)

/-- The head request of port p executes (R147): the request completes and leaves the queue, or is marked WAITING
(R154). The Bool calls for a choice: a line request has become the head, or the service list has gained an entry
(R79). -/
def State.executeHead (s : State) (p : Port) : State × Bool :=
  match (s.port p).queue with
  | [] => (s, false)
  | r :: _ =>
    match s.doLocal p r with
    | .completes s c =>
      let s := s.updPort p (·.endHead c)
      (s, s.headIsLine p)
    | .waits s gained => (s.updPort p ({ · with headMark := .waiting }), gained)

/-- What is left to be taken up in one change: a local request at the head of a port's queue, or a choice. -/
inductive Due where
  | execute (p : Port)
  | choose
deriving DecidableEq, Repr

/-- The events that stand ready: each port's local head, and a choice when one is called for and the record is idle
(R79: with the record in flight no choice is made). -/
def State.due (s : State) (call : Bool) : List Due :=
  ([0, 1, 2, 3].filter fun p => s.localReady p).map .execute
    ++ (if call && s.exchange.isNone then [.choose] else [])

/-- The event taken first. One event stands alone; among several the order is open (R79, R147), and the free value
racePick decides (log 7). -/
def State.takeFirst (s : State) (first : Due) (rest : List Due) : Due × State :=
  if rest.isEmpty then (first, s)
  else ((first :: rest).getD (Config.racePick s.races % (rest.length + 1)) first, { s with races := s.races + 1 })

/-- Everything that stands ready is taken up, one event after another (R147, R79). Each execution ends a queued request
or marks a head WAITING, so `fuel` of `settleFuel` is never spent. -/
def State.settleAll (fuel : Nat) (call : Bool) (s : State) : State :=
  match fuel with
  | 0 => s
  | fuel + 1 =>
    match s.due call with
    | [] => s
    | first :: rest =>
      match s.takeFirst first rest with
      | (.execute p, s) =>
        let (s, called) := s.executeHead p
        State.settleAll fuel (call || called) s
      | (.choose, s) => State.settleAll fuel false s.choice

/-- More than the events that can follow: two for each queued request, one for each head that comes to wait. -/
def State.settleFuel (s : State) : Nat := 2 * s.queued + 10

/-- Everything that stands ready after a change is taken up; `call` says that the change calls for a choice (R79). -/
def State.settle (s : State) (call : Bool) : State := State.settleAll s.settleFuel call s

/-! ### The commit (R145) -/

/-- A complete record is committed (R145): dropped in CLOSED and CLOSING, refused without credit, and otherwise queued
at the tail. The Bool calls for a choice: a line request has become the head (R79). -/
def State.commit (s : State) (p : Port) (r : Request) : State × Bool :=
  let u := s.port p
  if u.state.admits = false then (s, false)
  else if u.credits = 0 then (s.setPort p { u with sticky := u.sticky.setRefused }, false)
  else
    (s.setPort p { u with queue := u.queue ++ [r], credits := u.credits - 1 },
      u.queue.isEmpty && r.isLine)

/-! ### Transactions (R142) -/

/-- The transaction of port p acts on channel c: it is selected, its channel byte named c, and it is not void. Every
transaction other than a STATUS read is void while the load or a restart runs, and to its end when it began then
(R142). -/
def State.acts (s : State) (p : Port) (c : Channel) : Bool :=
  let l := (s.port p).link
  l.selected && decide (l.channel = some c)
    && (decide (c = .status) || (!l.tainted && decide (s.run = .running)))

/-- The transaction of port p is void: an unassigned channel byte, or a channel other than STATUS of a transaction that
may not act (R142). -/
def State.void (s : State) (p : Port) : Bool :=
  let l := (s.port p).link
  l.selected && (match l.channel with
    | some .status => false
    | some .unassigned => true
    | some _ => l.tainted || decide (s.run ≠ .running)
    | none => false)

/-- The part sends a word on PnSDO. -/
def State.send (s : State) (p : Port) (w : Word) : State :=
  s.updPort p fun u => { u with link := { u.link with sent := some w } }

/-- A word of a void transaction: the master's word is disregarded and the part sends zeros (R142). -/
def State.voidWord (s : State) (p : Port) : State := if s.void p then s.send p 0 else s

/-- A word joins the staging buffer (R143): a record that has as many words as its length is committed and the buffer
is empty again; what it leaves ready is taken up. -/
def State.stage (s : State) (p : Port) (w : Word) : State :=
  let words := (s.port p).staging ++ [w]
  match words with
  | [] => s
  | header :: body =>
    if words.length = takenLength header then
      let s := s.updPort p ({ · with staging := [] })
      let (s, call) := s.commit p ⟨header, body⟩
      s.settle call
    else s.updPort p ({ · with staging := words })

/-- A complete word on SUBMIT (R142, R143): the part sends zeros. -/
def State.submitWord (s : State) (p : Port) (w : Word) : State :=
  if s.acts p .submit then (s.send p 0).stage p w else s.voidWord p

/-- The words of a record on SUBMIT, one after another (R143). -/
def State.submitWords (s : State) (p : Port) (ws : List Word) : State := ws.foldl (fun s w => s.submitWord p w) s

end Sys2Proof.Machine
end

