-- ==== Sys2Proof/Machine/ExchangeEnd.lean ====
section
/-! DEFINITION. The Exchange Engine from SEND COMPLETE to the final outcome (Chapter 3): attempts and retries, the frame
reports, assembly, and the end of an exchange at every block. -/

namespace Sys2Proof.Machine

open Sys2Proof

/-! ### The end of an exchange (R69-R76) -/

/-- The notify flag of a watched READ (R71). -/
def PortUnit.flightNotify (u : PortUnit) : Bool :=
  match u.inFlight with
  | some r => r.notify
  | none => false

/-- The claims on the originating port's own slot (R71): a watched READ that ended OK arms it, a CWRITE empties it. -/
def State.ownWatchTakesEnd (s : State) (x : Exchange) (o : Final) : State :=
  match x.origin, x.watchSlot with
  | .port p, some k =>
    match x.kind with
    | .read =>
      if o.status = .ok then
        s.setWatch p k (armedWatch s.loader.params.watchLifetime x.address x.first x.count (s.port p).flightNotify)
      else s
    | .cwriteAsWrite => s.emptyWatch p k
    | _ => s
  | _, _ => s

/-- The slot a CWRITE's own break leaves out (R106). -/
def Exchange.ownSlot (x : Exchange) : Option (Port × WatchNo) :=
  match x.origin, x.watchSlot with
  | .port p, some k => some (p, k)
  | _, _ => none

/-- The breaks of an accepted write or broadcast (R105, R106, R107). -/
def State.breaksTakeEnd (s : State) (x : Exchange) (o : Final) : State :=
  if o.status = .ok then
    match x.kind with
    | .write => s.breakWatches (hitsWrite x.address x.first x.count) .write none
    | .cwriteAsWrite => s.breakWatches (hitsWrite x.address x.first x.count) .write x.ownSlot
    | .broadcast => s.breakWatches (hitsBroadcast x.first x.count) .broadcast none
    | _ => s
  else s

/-- The Watch Unit takes the end of an exchange whose orphan flag is clear (R71); with the discard flag set the claims
on the originating port's own slot are not handed. -/
def State.watchTakesEnd (s : State) (x : Exchange) (o : Final) : State :=
  let s := s.breaksTakeEnd x o
  if x.discard then s else s.ownWatchTakesEnd x o

/-- An ATTACH waiting at the head of a port on address a completes with the new state of the entry (R154). -/
def PortUnit.probeEnded (u : PortUnit) (a : Byte) (state : StationState) : PortUnit :=
  match u.headMark, u.queue with
  | .waiting, r :: _ =>
    if r.top = a then
      u.endHead (if state = .online then completionOf r .ok StationState.online.code 0 []
        else completionOf r .offline 0 0 [])
    else u
  | _, _ => u

/-- At the end of a probe the table tells every port whose ATTACH waits on the entry (R34, R48, R154). -/
def State.attachesTakeEnd (s : State) (x : Exchange) : State :=
  match x.purpose, x.slot with
  | .probe, some k =>
    match s.entry k with
    | some e => s.updPorts fun _ u => u.probeEnded e.address e.state
    | none => s
  | _, _ => s

/-- The Arbiter takes the end of a POLL (R85); the more-pending bit of an orphaned POLL is 0 (R72). -/
def State.arbiterTakesEnd (s : State) (x : Exchange) (o : Final) : State :=
  match x.purpose with
  | .poll => { s with arbiter := s.arbiter.pollEnded (!x.orphan && o.more) }
  | _ => s

/-- The completion of the request in flight (R73, R161): a READ that ended OK carries its values. -/
def flightCompletion (r : Request) (x : Exchange) (o : Final) : Completion :=
  completionOf r o.status o.detail x.attempt
    (if x.kind = .read ∧ o.status = .ok then packHalves o.values else [])

/-- The Port Unit takes the end of its exchange: a completion record (R73), a credit in place of one for a quiet WRITE
that ended OK (R163), or, with the discard flag set, the report that the exchange has ended, on which a CLOSING port
becomes CLOSED (R171). -/
def PortUnit.takesEnd (u : PortUnit) (x : Exchange) (o : Final) : PortUnit :=
  match u.inFlight with
  | none => u
  | some r =>
    if x.discard then
      { u.dropFlight with state := if u.state = .closing then .closed else u.state }
    else if r.isWrite && r.quiet && decide (o.status = .ok) then u.dropFlight
    else u.endFlight (flightCompletion r x o)

def State.portTakesEnd (s : State) (x : Exchange) (o : Final) : State :=
  match x.origin with
  | .port p => s.updPort p (·.takesEnd x o)
  | .internal => s

/-- The request of a pairing completes NORESPONSE with the attempts of the resync PING, and a CWRITE's slot is emptied
(R93). -/
def State.failPaired (s : State) (p : Port) (attempts : Nat) : State :=
  let s := { s with arbiter := { s.arbiter with pairing := none } }
  match (s.port p).queue with
  | [] => s
  | r :: _ =>
    let s := if r.isCwrite then s.emptyWatch p r.slot else s
    s.updPort p (·.endHead (completionOf r .noResponse 0 attempts []))

/-- The request of a pairing starts after a resync that ended OK; the start checks are not applied again (R92). -/
def State.startPaired (s : State) (p : Port) : State :=
  let s := { s with arbiter := { s.arbiter with pairing := none } }
  match (s.port p).queue with
  | [] => s
  | r :: _ => s.startHead p r

/-- The end of an exchange at every block but the Arbiter's next choice (R69-R73). -/
def State.handEnd (s : State) (x : Exchange) (o : Final) : State :=
  let s := { s with exchange := none }
  let s := if x.orphan then s
    else (((s.tableTakesEnd x o).watchTakesEnd x o).routerTakesEnd x o).attachesTakeEnd x
  (s.arbiterTakesEnd x o).portTakesEnd x o

/-- After the end of its exchange the originating port's local head executes, in the same change (R147; log 8). -/
def State.originExecutes (s : State) (x : Exchange) : State :=
  match x.origin with
  | .port p => if s.localReady p then (s.executeHead p).1 else s
  | .internal => s

/-- The end of an exchange (R69): the outcome is handed to every block, then the Arbiter acts: the paired request of a
resync starts at once (R92) or completes NORESPONSE (R93), and otherwise a choice is made (R79). -/
def State.endExchange (s : State) (x : Exchange) (o : Final) : State :=
  let s := s.handEnd x o
  match x.purpose, s.arbiter.pairing with
  | .resync, some p =>
    if o.status = .ok then (s.startPaired p).settle false
    else ((s.failPaired p x.attempt).choice).settle false
  | _, _ => (s.originExecutes x).settle true

/-! ### Attempts (R54-R61) -/

/-- RETRY_GAP ends: the attempt number rises by 1 and the same frame is given again (R60). -/
def State.retry (s : State) (x : Exchange) : State :=
  { s with
    exchange := some { x with attempt := x.attempt + 1, phase := .sending }
    line := s.line.give x.frame }

/-- The final outcome of the last attempt's failure (R59). -/
def Failure.outcome : Failure → Status
  | .timeout => .noResponse
  | .garbled => .badReply
  | .protocol => .badReply
  | .busy => .busy

/-- An attempt fails (R58): the timer stops, the assembly buffer is emptied, and the retry decision of R59 is made. The
gap ends at once when the idle count already stands at 44 (R60). -/
def State.failAttempt (s : State) (x : Exchange) (f : Failure) : State :=
  let x := { x with lastFailure := some f, replyTimer := none, buffer := [], nextIndex := 0 }
  if x.attempt < 1 + s.loader.params.retryLimit then
    let x := { x with phase := .retryGap }
    if s.line.idle = Config.frameGap then s.retry x else { s with exchange := some x }
  else s.endExchange x { status := f.outcome }

/-- The record waits for a reply, with the reply timer at the reply timeout (R54, R55, R56). -/
def State.await (s : State) (x : Exchange) : State :=
  { s with exchange := some { x with phase := .awaiting, replyTimer := some s.loader.params.replyTimeout } }

/-- The hold-off of a broadcast ends OK (R68). -/
def State.endBroadcast (s : State) (x : Exchange) : State := s.endExchange x { status := .ok }

/-- SEND COMPLETE at the Engine (R54, R68). -/
def State.sendDone (s : State) : State :=
  match s.exchange with
  | none => s
  | some x =>
    if x.phase = .sending then
      if x.kind = .broadcast then
        if s.loader.params.holdoff = 0 then s.endBroadcast x
        else { s with exchange := some { x with phase := .holdoff, holdoffTimer := some s.loader.params.holdoff } }
      else s.await x
    else s

/-- FRAME BEGUN at the Engine: in AWAITING it moves the record to RECEIVING and stops the timer (R55, R56); elsewhere
it is discarded (R61). -/
def State.frameBegun (s : State) : State :=
  match s.exchange with
  | none => s
  | some x =>
    if x.phase = .awaiting then { s with exchange := some { x with phase := .receiving, replyTimer := none } } else s

/-- The reply timer expires in AWAITING (R55). -/
def State.replyExpired (s : State) : State :=
  match s.exchange with
  | none => s
  | some x => if x.phase = .awaiting ∧ x.replyTimer.isSome = true then s.failAttempt x .timeout else s

/-- The hold-off timer expires (R68). -/
def State.holdoffExpired (s : State) : State :=
  match s.exchange with
  | none => s
  | some x => if x.phase = .holdoff ∧ x.holdoffTimer.isSome = true then s.endBroadcast x else s

/-! ### Replies (R57, R62-R67) -/

/-- An ANSWER fragment (R63). -/
def State.takeAnswer (s : State) (x : Exchange) (index : Nat) (values : List Half) (more : Bool) : State :=
  let total := x.buffer.length + values.length
  if index ≠ x.nextIndex then s.failAttempt x .protocol
  else if x.count < total then s.failAttempt x .protocol
  else if more = false ∧ total < x.count then s.failAttempt x .protocol
  else if more = true ∧ total = x.count then s.failAttempt x .protocol
  else if more = true ∧ index = 3 then s.failAttempt x .protocol
  else if more then s.await { x with buffer := x.buffer ++ values, nextIndex := index + 1 }
  else s.endExchange x { status := .ok, values := x.buffer ++ values }

/-- A REFUSE in any exchange that expects a reply (R66). A READ that ends so delivers no values (R64). -/
def State.takeRefuse (s : State) (x : Exchange) (reason : RefuseReason) : State :=
  match reason with
  | .busy => s.failAttempt x .busy
  | .nopoint => s.endExchange x { status := .refused, detail := RefuseReason.nopoint.code }
  | .denied => s.endExchange x { status := .refused, detail := RefuseReason.denied.code }
  | .fault => s.endExchange x { status := .refused, detail := RefuseReason.fault.code }

/-- The K the POLL frame carried (R67). -/
def Exchange.ackBit (x : Exchange) : Bool :=
  match x.ackSent with
  | some a => a.k
  | none => false

/-- A frame from the right station, by the kinds its exchange allows (R57). -/
def State.takeReply (s : State) (x : Exchange) (reply : Reply) : State :=
  match x.kind, reply with
  | .broadcast, _ => s.failAttempt x .protocol
  | _, .refuse reason => s.takeRefuse x reason
  | .ping, .pong capable highest => s.endExchange x { status := .ok, pong := some (capable, highest) }
  | .read, .answer index values more => s.takeAnswer x index values more
  | .write, .accept => s.endExchange x { status := .ok }
  | .cwriteAsWrite, .accept => s.endExchange x { status := .ok }
  | .poll, .report t more items =>
    s.endExchange x { status := .ok, more := more, report := if t = x.ackBit then none else some (t, items) }
  | .poll, .nothing => s.endExchange x { status := .ok }
  | _, _ => s.failAttempt x .protocol

/-- A FRAME VALID report in RECEIVING (R57): the source, then the heard claim unless the exchange is orphaned, then the
kind. -/
def State.takeValid (s : State) (x : Exchange) (source : Byte) (reply : Reply) : State :=
  if source ≠ x.address then s.failAttempt x .protocol
  else
    let s := match x.orphan, x.slot with
      | false, some k => s.heard k
      | _, _ => s
    s.takeReply x reply

/-- A report that ends a frame reaches the Engine: in RECEIVING it decides the attempt (R56), the cause of a garbled frame
making no difference (R7); elsewhere it is discarded (R61). -/
def State.frameEnded (s : State) (report : FrameReport) : State :=
  match s.exchange with
  | none => s
  | some x =>
    if x.phase = .receiving then
      match report with
      | .garbled _ => s.failAttempt x .garbled
      | .ignored => s.await x
      | .malformed _ => s.failAttempt x .protocol
      | .valid source reply => s.takeValid x source reply
    else s

end Sys2Proof.Machine
end

