-- ==== Sys2Proof/Machine/StartUp.lean ====
section
/-! DEFINITION. Start-up (Chapter 9): power-on reset, the configuration load, and warm restart. -/

namespace Sys2Proof.Machine

open Sys2Proof

/-! ### Power-on reset (R181, R182) -/

/-- A transaction under way keeps its select level and is void (log 10). -/
def Link.resetting (l : Link) : Link := if l.selected then { l with tainted := true } else l

/-- POWER_ON_RESET: the whole part returns to its power-on state, whatever it was doing (R182); the commands still
waiting, the levels that others drive on the line and on the selects, and the model's counter `races` are not the part's
to reset (log 10). -/
def execPowerOnReset (s : State) : Host.Outcome State Fault Refusal :=
  .next { State.reset with
    line := { State.reset.line with low := s.line.low }
    ports := s.ports.map fun u => { PortUnit.reset with link := u.link.resetting }
    races := s.races
    pending := s.pending }

/-! ### The configuration load (R182-R188) -/

/-- LOAD_START: the load begins at CLEARING when PORST is deasserted (R182). Elsewhere it is no event (log 9). -/
def execLoadStart (s : State) : Host.Outcome State Fault Refusal :=
  if s.run = .powerOn then
    .next { s with
      run := .loading
      loader := { s.loader with phase := some .clearing, image := [], bus := [] } }
  else .next s

/-- What the configuration lines gave: no memory was reached, or 64 bytes were read. -/
inductive Reading where
  | absent
  | bytes (image : List Byte)
deriving DecidableEq, Repr

/-- n clock pulses of CLEARING, after each of which the data line is found low again (R183). -/
def stuckPulses (n : Nat) : List BusOp := (List.replicate n [BusOp.releasedPulse, BusOp.look false]).flatten

/-- CLEARING (R183): the looks, `lowLooks` of which find CFGSDA low, the pulses they call for, and whether the bus came
free. -/
def clearing (lowLooks : Nat) : List BusOp × Bool :=
  if lowLooks = 0 then ([.look true], true)
  else if lowLooks ≤ Config.clearingPulses then
    (.look false :: (stuckPulses (lowLooks - 1) ++ [.releasedPulse, .look true, .stop]), true)
  else (.look false :: stuckPulses Config.clearingPulses, false)

/-- One byte on the bus (R183): eight clock pulses carry its bits, most significant first, and on the ninth the other side
acknowledges it by holding CFGSDA low. -/
def busByte (sender receiver : BusSide) (b : Byte) (acked : Bool) : List BusOp :=
  (dataBits b).reverse.map (BusOp.pulse sender) ++ [.pulse receiver (!acked)]

/-- The device address with a direction (R183). PRESUMED (log 23): the direction is the last bit, 0 to write and 1 to
read. -/
def deviceByte (read : Bool) : Byte := Config.memoryAddress ++ BitVec.ofBool read

/-- A byte of ADDRESSING, which the memory must acknowledge (R183). -/
def addressingByte (b : Byte) (acked : Bool) : List BusOp := busByte .loader .memory b acked

/-- ADDRESSING (R183): the three bytes, up to the first that is not acknowledged. -/
def addressing (lines : ConfigLines) : List BusOp × Bool :=
  let first : List BusOp := .start :: addressingByte (deviceByte false) lines.ackWrite
  let second : List BusOp := first ++ addressingByte 0 lines.ackByte
  let third : List BusOp := second ++ .repeatedStart :: addressingByte (deviceByte true) lines.ackRead
  if lines.ackWrite = false then (first ++ [.stop], false)
  else if lines.ackByte = false then (second ++ [.stop], false)
  else if lines.ackRead = false then (third ++ [.stop], false)
  else (third, true)

/-- READING on the bus (R184): every byte but the 64th is acknowledged, then a stop condition. -/
def readingOps (image : List Byte) : List BusOp :=
  ((image.take (Config.imageBytes - 1)).flatMap fun b => busByte .memory .loader b true)
    ++ ((image.drop (Config.imageBytes - 1)).flatMap fun b => busByte .memory .loader b false) ++ [.stop]

/-- CLEARING, ADDRESSING and READING together: the bus record and what was read. -/
def readMemory (lines : ConfigLines) : List BusOp × Reading :=
  match clearing lines.lowLooks with
  | (ops, false) => (ops, .absent)
  | (ops, true) =>
    match addressing lines with
    | (ops', false) => (ops ++ ops', .absent)
    | (ops', true) =>
      let image := imageOf lines.bytes
      (ops ++ ops' ++ readingOps image, .bytes image)

/-- The check word of an image, its last two bytes (R185). -/
def imageCheck (image : List Byte) : Half := halfOfBytes (image.getD 62 0) (image.getD 63 0)

/-- What JUDGING leaves in effect: the result, the line parameters and the kept pre-attach list. -/
structure Judgement where
  result : LoadResult
  params : LineParams
  kept : List (Byte × PortSet)
deriving DecidableEq, Repr

/-- A DEFAULTED result: every default, every port open, nothing kept (R185). -/
def Judgement.defaulted (result : LoadResult) : Judgement := ⟨result, Config.defaults, []⟩

/-- The image settled field by field and entry by entry (R186, R187). -/
def settleImage (image : List Byte) : Judgement :=
  let params := settledParams image
  let (kept, adjusted) := settlePreAttach params.openAtStart (preAttachEntries image)
  ⟨if fieldsAdjusted image || adjusted then .adjusted else .loaded, params, kept⟩

/-- JUDGING (R185): the format mark, then the check word; the image is settled when both pass. -/
def judge (reading : Reading) : Judgement :=
  match reading with
  | .absent => .defaulted .defaultedAbsent
  | .bytes image =>
    if image.getD 0 0 ≠ Config.formatMark then .defaulted .defaultedFormat
    else if crc16 (image.take 62) ≠ imageCheck image then .defaulted .defaultedCheck
    else settleImage image

/-- The image buffer as the load leaves it (R184). -/
def Reading.image : Reading → List Byte
  | .absent => []
  | .bytes image => image

/-- A Port Unit at the end of the load (R181): OPEN with 16 credits when its port is in the open-at-start set (R168), and
CONFIG set unless the result is LOADED. -/
def PortUnit.loadEnds (u : PortUnit) (opens : Bool) (result : LoadResult) : PortUnit :=
  { u with
    state := if opens then .opened else u.state
    credits := if opens then Config.credits else u.credits
    sticky := if result = .loaded then u.sticky else u.sticky.setConfig }

/-- The time base starts and the poll timer is loaded with the poll period (R95, R97, R98). -/
def State.startPollTimer (s : State) : State :=
  { s with arbiter := { s.arbiter with pollTimer := some s.loader.params.pollPeriod } }

/-- The Loader when it enters DONE. -/
def Loader.finished (image : List Byte) (bus : List BusOp) (j : Judgement) : Loader :=
  ⟨some .done, image, j.result, j.params, j.kept, bus⟩

/-- APPLYING and the end of the load at every block, but for the Arbiter's first choice (R188, R30, R181, R9, R97). -/
def State.applyLoad (s : State) (image : List Byte) (bus : List BusOp) (j : Judgement) : State :=
  let s := { s with loader := Loader.finished image bus j }
  let s := j.kept.foldl (fun s kept => s.preAttach kept) s
  let s := s.updPorts fun p u => u.loadEnds (j.params.openAtStart.get p) j.result
  { s with run := .running, line := s.line.enabled }.startPollTimer

/-- LOAD_END: the load from CLEARING to DONE (R183-R188), on what the configuration lines gave (log 13), and the first
choice (R97). Where no load runs it is no event (log 9). -/
def execLoadEnd (lines : ConfigLines) (s : State) : Host.Outcome State Fault Refusal :=
  if s.run = .loading then
    let (bus, reading) := readMemory lines
    .next ((s.applyLoad reading.image bus (judge reading)).settle true)
  else .next s

/-! ### Warm restart (R190) -/

/-- The Arbiter at warm restart (R98): the service list holds the probes of the entries in PROBING. The time base
stops (R95). -/
def Arbiter.restarted (table : List (Option Entry)) : Arbiter :=
  { Arbiter.reset with serviceList := probesOf table }

/-- A Port Unit at warm restart (R148, R141, R180, R179, R142): a head marked PAIRED loses its mark. -/
def PortUnit.restart (u : PortUnit) : PortUnit :=
  { u.dropFlight with
    state := if u.state = .closing then .closed else u.state
    sticky := u.sticky.onlyWake
    restarted := true
    staging := []
    headMark := if u.headMark = .paired then .none else u.headMark
    completionPos := 0
    reports := []
    reportPos := 0
    link := u.link.resetting }

/-- The warm restart of every block (R190, R9, R77, R51, R98, R120, R141, R148, R180). The entries stay as they stand:
DESIGN CHOICE (log 25), a heard claim that a frame of the abandoned exchange has already made is kept. -/
def State.restart (s : State) : State :=
  let table := s.table.map fun o => o.map fun e => e.restarted s.loader.params.reprobeInterval
  { s with
    run := .restarting
    line := s.line.stopped
    exchange := none
    table := table
    arbiter := Arbiter.restarted table
    watches := Quad.fill (Quad.fill Watch.emptySlot)
    ports := s.ports.map PortUnit.restart }

/-- WARM_RESTART: taken after the load; an assertion during it is passed over (R190). -/
def execWarmRestart (s : State) : Host.Outcome State Fault Refusal :=
  if s.run = .running then .next s.restart else .next s

/-- WARM_RESTART_END (R98, R9, R95): the line is enabled, the poll timer loaded, and the Arbiter chooses; the queue heads
are taken up (R148). -/
def execWarmRestartEnd (s : State) : Host.Outcome State Fault Refusal :=
  if s.run = .restarting then
    .next ({ s with run := .running, line := s.line.enabled }.startPollTimer.settle true)
  else .next s

end Sys2Proof.Machine
end

