-- ==== Sys2Proof/Machine/Transactions.lean ====
section
/-! DEFINITION. The transactions of the ports (R142, R143, R164, R178): select, channel byte, words, and the STATUS
read. -/

namespace Sys2Proof.Machine

open Sys2Proof

/-- TRANSACTION_BEGIN: select is asserted (R142). A transaction that begins while the load or a warm restart runs is
void to its end; one also begins so while PORST is asserted (log 10). A select already asserted is no event (log 9). -/
def execTransactionBegin (p : Port) (s : State) : Host.Outcome State Fault Refusal :=
  if (s.port p).link.selected then .next s
  else .next (s.updPort p fun u => { u with link := ⟨true, decide (s.run ≠ .running), none, false, none⟩ })

/-- CHANNEL_OPERATION: the first byte of the transaction selects its channel (R142). -/
def execChannelOperation (p : Port) (op : Byte) (s : State) : Host.Outcome State Fault Refusal :=
  let l := (s.port p).link
  if l.selected && l.channel.isNone then
    .next (s.updPort p fun u => { u with link := { u.link with channel := some (channelOf op) } })
  else .next s

/-- TRANSACTION_END: select is deasserted; an incomplete staged record is discarded (R143) and the read positions return
to 0 (R164). -/
def execTransactionEnd (p : Port) (s : State) : Host.Outcome State Fault Refusal :=
  .next (s.updPort p fun u => { u with staging := [], completionPos := 0, reportPos := 0, link := Link.idle })

/-- SUBMIT_WORD: a complete word on SUBMIT (R143). -/
def execSubmitWord (p : Port) (w : Word) (s : State) : Host.Outcome State Fault Refusal := .next (s.submitWord p w)

/-- The transaction has sent its one record, or kind NONE (R164). -/
def Link.finish (l : Link) : Link := { l with finished := true }

/-- A word of the record at the head of the completion queue (R164): at its last word the record leaves, its credit
returns and the position returns to 0. From an empty queue, and after the record, the words are 0. -/
def PortUnit.takeCompletionWord (u : PortUnit) : PortUnit × Word :=
  if u.link.finished then (u, 0)
  else
    match u.completions with
    | [] => ({ u with link := u.link.finish }, 0)
    | c :: rest =>
      let w := c.words.getD u.completionPos 0
      if u.completionPos + 1 < c.words.length then ({ u with completionPos := u.completionPos + 1 }, w)
      else ({ u with completions := rest, completionPos := 0, credits := u.credits + 1, link := u.link.finish }, w)

/-- A word of the record at the head of the report queue (R164). -/
def PortUnit.takeReportWord (u : PortUnit) : PortUnit × Word :=
  if u.link.finished then (u, 0)
  else
    match u.reports with
    | [] => ({ u with link := u.link.finish }, 0)
    | r :: rest =>
      let w := r.words.getD u.reportPos 0
      if u.reportPos + 1 < r.words.length then ({ u with reportPos := u.reportPos + 1 }, w)
      else ({ u with reports := rest, reportPos := 0, link := u.link.finish }, w)

/-- One word of a TAKE, transferred in full (R142). -/
def State.takeWord (s : State) (p : Port) (c : Channel) (take : PortUnit → PortUnit × Word) : State :=
  if s.acts p c then
    let (u, w) := take (s.port p)
    (s.setPort p u).send p w
  else s.voidWord p

/-- TAKE_COMPLETION: one word of a TAKE-COMPLETION (R164). -/
def execTakeCompletion (p : Port) (s : State) : Host.Outcome State Fault Refusal :=
  .next (s.takeWord p .takeCompletion PortUnit.takeCompletionWord)

/-- TAKE_REPORT: one word of a TAKE-REPORT (R164). -/
def execTakeReport (p : Port) (s : State) : Host.Outcome State Fault Refusal :=
  .next (s.takeWord p .takeReport PortUnit.takeReportWord)

/-- STATUS_READ: the status word is captured and sent (R178). A word sent in full clears the RESTARTED indication that it
carries (R179); one cut short changes nothing. -/
def execStatusRead (p : Port) (full : Bool) (s : State) : Host.Outcome State Fault Refusal :=
  if s.acts p .status && full then
    let s' := s.send p (s.statusWord p)
    .next (s'.updPort p ({ · with restarted := false }))
  else .next s

end Sys2Proof.Machine
end

