-- ==== Sys2Proof/Machine/Control.lean ====
section
/-! DEFINITION. The control operations (Chapter 8): each is one complete word on CONTROL. -/

namespace Sys2Proof.Machine

open Sys2Proof

/-- The port states in which an operation is allowed (R167). -/
def ControlOp.allowed (op : ControlOp) (state : PortState) : Bool :=
  match op with
  | .openPort => decide (state = .closed)
  | .doze => decide (state = .opened)
  | .wakeup => decide (state = .dozing)
  | .close => state.admits
  | .clear => true
  | .mask => true
  | .force => true

/-- OPEN (R168). -/
def PortUnit.opens (u : PortUnit) : PortUnit := { u with state := .opened, credits := Config.credits }

/-- The Port Unit's part of a CLOSE (R170): the queues are emptied with their credits, the sticky flags but WAKE
cleared, and the port becomes CLOSING when a request is in flight. -/
def PortUnit.closes (u : PortUnit) : PortUnit :=
  { u with
    state := if u.inFlight.isSome then .closing else .closed
    sticky := u.sticky.onlyWake
    credits := u.credits + u.queue.length + u.completions.length
    queue := []
    headMark := .none
    completions := []
    completionPos := 0
    reports := []
    reportPos := 0 }

/-- The Engine told of a CLOSE (R74): the discard flag of the port's exchange is set. -/
def Exchange.closedBy (x : Exchange) (p : Port) : Exchange :=
  if x.origin = .port p then { x with discard := true } else x

/-- CLOSE (R170): the Port Unit, the Engine (R74), the Arbiter (R94), the Watch Unit (R119), the Station Table (R46) and
the Report Router (R141), in one change. -/
def State.closePort (s : State) (p : Port) : State :=
  let s := { s with
    exchange := s.exchange.map fun x : Exchange => x.closedBy p
    arbiter := { s.arbiter with pairing := if s.arbiter.pairing = some p then none else s.arbiter.pairing } }
  (((s.updPort p PortUnit.closes).emptyWatches p).leaveAll p).setRouting p Routing.cleared

/-- The effect of an operation that is allowed (R168-R172). -/
def State.control (s : State) (p : Port) (op : ControlOp) (flags : Byte) : State :=
  match op with
  | .openPort => s.updPort p PortUnit.opens
  | .doze => s.updPort p ({ · with state := .dozing })
  | .wakeup => s.updPort p ({ · with state := .opened })
  | .close => s.closePort p
  | .clear => s.updPort p fun u => { u with sticky := u.sticky.cleared flags }
  | .mask => s.updPort p ({ · with mask := flags })
  | .force => s.updPort p fun u => { u with sticky := u.sticky.forced flags }

/-- An operation is taken when the port's state allows it, and is no change otherwise (R167). -/
def State.takeControl (s : State) (p : Port) (op : ControlOp) (flags : Byte) : State :=
  if op.allowed (s.port p).state then s.control p op flags else s

/-- A complete word on CONTROL (R167, R196): the part sends zeros, and a code of no operation is no change. -/
def State.takeControlWord (s : State) (p : Port) (w : Word) : State :=
  if s.acts p .control then
    let s := s.send p 0
    match controlOp w with
    | some op => s.takeControl p op (controlFlags w)
    | none => s
  else s.voidWord p

/-- OPEN (R168). -/
def execOpen (p : Port) (s : State) : Host.Outcome State Fault Refusal :=
  .next (s.takeControlWord p (controlWord .openPort 0))

/-- DOZE (R169). -/
def execDoze (p : Port) (s : State) : Host.Outcome State Fault Refusal :=
  .next (s.takeControlWord p (controlWord .doze 0))

/-- WAKEUP (R169). -/
def execWakeup (p : Port) (s : State) : Host.Outcome State Fault Refusal :=
  .next (s.takeControlWord p (controlWord .wakeup 0))

/-- CLOSE (R170). -/
def execClose (p : Port) (s : State) : Host.Outcome State Fault Refusal :=
  .next (s.takeControlWord p (controlWord .close 0))

/-- CLEAR (R172). -/
def execClear (p : Port) (flags : Byte) (s : State) : Host.Outcome State Fault Refusal :=
  .next (s.takeControlWord p (controlWord .clear flags))

/-- MASK (R172). -/
def execMask (p : Port) (flags : Byte) (s : State) : Host.Outcome State Fault Refusal :=
  .next (s.takeControlWord p (controlWord .mask flags))

/-- FORCE (R172). -/
def execForce (p : Port) (flags : Byte) (s : State) : Host.Outcome State Fault Refusal :=
  .next (s.takeControlWord p (controlWord .force flags))

/-- INVALID_CONTROL_OPERATION: a control word with an unassigned operation, or one not allowed in the port's state, is
no change (R167). The word is decoded as any other; one that is valid where it is met acts as its operation
(log 17). -/
def execInvalidControlOperation (p : Port) (w : Word) (s : State) : Host.Outcome State Fault Refusal :=
  .next (s.takeControlWord p w)

end Sys2Proof.Machine
end

