-- ==== Sys2Proof/Machine/LineRequests.lean ====
section
/-! DEFINITION. The line requests (R150-R152): each row submits the whole record of its request over SUBMIT (log 6). The
request is served at the choice (`State.choosePort`) and ends at the end of its exchange (`State.endExchange`). -/

namespace Sys2Proof.Machine

open Sys2Proof

/-- The record of a line request (R193): header, word 1, and the words of values. -/
def lineRecord (kind : BitVec 4) (h : Header) (address : Byte) (first : Half) (count : Byte) (values : List Word) :
    List Word :=
  headerWord kind h :: lineWord address first count :: values

/-- READ (R150). -/
def execRead (p : Port) (h : Header) (address : Byte) (first : Half) (count : Byte) (more : List Word) (s : State) :
    Host.Outcome State Fault Refusal :=
  .next (s.submitWords p (lineRecord reqRead h address first count more))

/-- WRITE (R151); address 0 makes it a broadcast. -/
def execWrite (p : Port) (h : Header) (address : Byte) (first : Half) (count : Byte) (values : List Word) (s : State) :
    Host.Outcome State Fault Refusal :=
  .next (s.submitWords p (lineRecord reqWrite h address first count values))

/-- CWRITE (R152). -/
def execCwrite (p : Port) (h : Header) (address : Byte) (first : Half) (count : Byte) (values : List Word) (s : State) :
    Host.Outcome State Fault Refusal :=
  .next (s.submitWords p (lineRecord reqCwrite h address first count values))

end Sys2Proof.Machine
end

