-- ==== Sys2Proof/Machine/LocalRows.lean ====
section
/-! DEFINITION. The rows of the local requests (R133-R139, R153-R160): each submits the whole record of its request over
SUBMIT (log 6). The request executes at the head of its queue (`State.executeHead`, `State.doLocal`). -/

namespace Sys2Proof.Machine

open Sys2Proof

/-- The record of a FILTER (Section 10.3): sub-operation, bits 23-16 and bits 15-0 of word 1. -/
def filterRecord (h : Header) (sub second : Byte) (low : Half) (more : List Word) : List Word :=
  headerWord reqFilter h :: subWord sub second low :: more

/-- The record of a QUERY (Section 10.3). -/
def queryRecord (h : Header) (sub address : Byte) (more : List Word) : List Word :=
  headerWord reqQuery h :: subWord sub address 0 :: more

/-- ATTACH (R153). -/
def execAttach (p : Port) (h : Header) (address : Byte) (more : List Word) (s : State) :
    Host.Outcome State Fault Refusal :=
  .next (s.submitWords p (headerWord reqAttach h :: addressWord address :: more))

/-- DETACH (R155). -/
def execDetach (p : Port) (h : Header) (address : Byte) (more : List Word) (s : State) :
    Host.Outcome State Fault Refusal :=
  .next (s.submitWords p (headerWord reqDetach h :: addressWord address :: more))

/-- RELEASE (R156). -/
def execRelease (p : Port) (h : Header) (more : List Word) (s : State) : Host.Outcome State Fault Refusal :=
  .next (s.submitWords p (headerWord reqRelease h :: 0 :: more))

/-- FILTER of sub-operation MODE (R134). -/
def execFilterMode (p : Port) (h : Header) (mode : Byte) (more : List Word) (s : State) :
    Host.Outcome State Fault Refusal :=
  .next (s.submitWords p (filterRecord h 1 mode 0 more))

/-- FILTER of sub-operation LIST_ADD (R135). -/
def execFilterListAdd (p : Port) (h : Header) (station : Byte) (group : Half) (more : List Word) (s : State) :
    Host.Outcome State Fault Refusal :=
  .next (s.submitWords p (filterRecord h 2 station group more))

/-- FILTER of sub-operation LIST_REMOVE (R135). -/
def execFilterListRemove (p : Port) (h : Header) (station : Byte) (group : Half) (more : List Word) (s : State) :
    Host.Outcome State Fault Refusal :=
  .next (s.submitWords p (filterRecord h 3 station group more))

/-- FILTER of sub-operation HASH_SET (R136). -/
def execFilterHashSet (p : Port) (h : Header) (station : Byte) (group : Half) (more : List Word) (s : State) :
    Host.Outcome State Fault Refusal :=
  .next (s.submitWords p (filterRecord h 4 station group more))

/-- FILTER of sub-operation HASH_CLEAR (R136). -/
def execFilterHashClear (p : Port) (h : Header) (station : Byte) (group : Half) (more : List Word) (s : State) :
    Host.Outcome State Fault Refusal :=
  .next (s.submitWords p (filterRecord h 5 station group more))

/-- FILTER of sub-operation CLEAR_ALL (R137). -/
def execFilterClearAll (p : Port) (h : Header) (more : List Word) (s : State) : Host.Outcome State Fault Refusal :=
  .next (s.submitWords p (filterRecord h 6 0 0 more))

/-- The record of a WAKESET (Section 10.3): a record whose length is taken as 2 ends after its word 1 (R144). -/
def wakesetRecord (h : Header) (number : BitVec 4) (enabled : Bool) (station : Byte) (point bits compare : Half)
    (more : List Word) : List Word :=
  let header := headerWord reqWakeset h
  let body := wakesetWords number enabled station point bits compare
  header :: (if takenLength header = 2 then body.take 1 else body ++ more)

/-- WAKESET (R139). -/
def execWakeset (p : Port) (h : Header) (number : BitVec 4) (enabled : Bool) (station : Byte) (point bits compare : Half)
    (more : List Word) (s : State) : Host.Outcome State Fault Refusal :=
  .next (s.submitWords p (wakesetRecord h number enabled station point bits compare more))

/-- QUERY STATION (R157). -/
def execQueryStation (p : Port) (h : Header) (address : Byte) (more : List Word) (s : State) :
    Host.Outcome State Fault Refusal :=
  .next (s.submitWords p (queryRecord h 1 address more))

/-- QUERY CHANGES (R158). -/
def execQueryChanges (p : Port) (h : Header) (more : List Word) (s : State) : Host.Outcome State Fault Refusal :=
  .next (s.submitWords p (queryRecord h 2 0 more))

/-- QUERY WATCHES (R157). -/
def execQueryWatches (p : Port) (h : Header) (more : List Word) (s : State) : Host.Outcome State Fault Refusal :=
  .next (s.submitWords p (queryRecord h 3 0 more))

/-- QUERY LINE (R157). -/
def execQueryLine (p : Port) (h : Header) (more : List Word) (s : State) : Host.Outcome State Fault Refusal :=
  .next (s.submitWords p (queryRecord h 4 0 more))

/-- MARK (R159). -/
def execMark (p : Port) (h : Header) (more : List Word) (s : State) : Host.Outcome State Fault Refusal :=
  .next (s.submitWords p (headerWord reqMark h :: 0 :: more))

/-- A record of an unassigned kind (R160). -/
def execUnassignedKind (p : Port) (kind : BitVec 4) (h : Header) (words : List Word) (s : State) :
    Host.Outcome State Fault Refusal :=
  .next (s.submitWords p (headerWord kind h :: words))

end Sys2Proof.Machine
end

