-- ==== Sys2Proof/Machine/FieldLine.lean ====
section
/-! DEFINITION. The field line (Chapters 1 and 3): the events of the transmitter, the receiver and the two timers of the
exchange record, and the passing of bit times. -/

namespace Sys2Proof.Machine

open Sys2Proof

def State.setRx (s : State) (rx : Receiver) : State := { s with line := { s.line with rx := rx } }

/-! ### The receiver (R6, R7) -/

/-- A frame found garbled in the middle: the receiver reports it with its cause and passes the rest over (R7). -/
def State.discardFrame (s : State) (cause : GarbleCause) : State :=
  (s.setRx .discarding).frameEnded (.garbled cause)

/-- The cause that the first character of a frame shows (R7). DESIGN CHOICE (log 24): a fault stands before a wrong
marker. -/
def firstCause (data : Byte) (fault : Bool) : Option GarbleCause :=
  if fault then some .characterFault else if data = Config.marker then none else some .marker

/-- The cause that character number `n` of a frame shows in COLLECTING (R7). DESIGN CHOICE (log 24): a fault stands
before a length over 67. -/
def laterCause (n : Nat) (data : Byte) (fault : Bool) : Option GarbleCause :=
  if fault then some .characterFault
  else if n = 5 ∧ Config.maxPayload < data.toNat then some .lengthOver67
  else none

/-- The cause that a character shows to the receiver that takes it (R7): none leaves the frame as it goes on. A character
accepted in HELD makes the frame a long one, at its start bit, before any fault of its own shows (log 24). -/
def Receiver.causeOf (rx : Receiver) (data : Byte) (fault : Bool) : Option GarbleCause :=
  match rx with
  | .closed => none
  | .hunting => firstCause data fault
  | .collecting chars => laterCause (chars.length + 1) data fault
  | .held _ => some .longFrame
  | .discarding => none

/-- The characters a frame will have: its length byte plus 7 (R6). -/
def expectedCharacters (chars : List Byte) : Nat := (chars.getD 4 0).toNat + 7

/-- The receiver in COLLECTING with the characters so far, or in HELD when they are all there (R6). -/
def Receiver.gathering (chars : List Byte) : Receiver :=
  if 5 ≤ chars.length ∧ chars.length = expectedCharacters chars then .held chars else .collecting chars

/-- The receiver after a character that shows no cause (R6). -/
def Receiver.extended (rx : Receiver) (data : Byte) : Receiver :=
  match rx with
  | .hunting => .collecting [data]
  | .collecting chars => .gathering (chars ++ [data])
  | rx => rx

/-- A character reaches the receiver (R6, R7): the first of a frame is reported FRAME BEGUN, and then each is judged. -/
def State.takeCharacter (s : State) (data : Byte) (fault : Bool) : State :=
  let rx := s.line.rx
  let s := if rx = .hunting then s.frameBegun else s
  match rx.causeOf data fault with
  | some cause => s.discardFrame cause
  | none => s.setRx (rx.extended data)

/-- The idle count exceeds 22 (R6, R7, R8). -/
def State.confirmFrame (s : State) : State :=
  match s.line.rx with
  | .closed => s
  | .hunting => s
  | .collecting _ => (s.setRx .hunting).frameEnded (.garbled .shortFrame)
  | .held chars => (s.setRx .hunting).frameEnded (evaluateFrame chars)
  | .discarding => s.setRx .hunting

/-! ### Time on the line -/

/-- n bit times of a line that no one drives: the counts run (R2, R55, R68), and a frame whose end the idle count then
confirms ends (R6). -/
def State.lapse (s : State) (n : Nat) : State :=
  let s := s.elapse n
  if s.line.rx.midFrame && decide (Config.characterGap < s.line.idle) then s.confirmFrame else s

/-- A WAITING transmitter goes to DRIVING when the idle count stands at 44 (R3). -/
def State.transmit (s : State) : State :=
  match s.line.tx with
  | .waiting frame => if s.line.idle = Config.frameGap then { s with line := s.line.drive frame } else s
  | _ => s

/-- The retry gap ends when the idle count stands at 44 (R60). -/
def State.gapEnds (s : State) : State :=
  match s.exchange with
  | some x => if x.phase = .retryGap ∧ s.line.idle = Config.frameGap then s.retry x else s
  | none => s

/-- The release at the end of a frame, and SEND COMPLETE at the Engine (R4, R54). -/
def State.completeSend (s : State) : State := { s with line := s.line.release }.sendDone

/-- The reply timer of an exchange in AWAITING. -/
def State.replyLeft (s : State) : Option Nat :=
  match s.exchange with
  | some x => if x.phase = .awaiting then x.replyTimer else none
  | none => none

/-- The hold-off timer of an exchange in HOLDOFF. -/
def State.holdoffLeft (s : State) : Option Nat :=
  match s.exchange with
  | some x => if x.phase = .holdoff then x.holdoffTimer else none
  | none => none

/-- The exchange stands in RETRY_GAP. -/
def State.inRetryGap (s : State) : Bool :=
  match s.exchange with
  | some x => decide (x.phase = .retryGap)
  | none => false

/-- One bit time (log 3): the transmitter drives its next bit, or the counts run and what they bring due is taken: the
end of a received frame, the expiry of a timer, the end of the inter-frame gap. The part counts nothing while it does
not run. -/
def State.bitTime (s : State) : State :=
  if s.run = .running then
    match s.line.tx with
    | .driving (_ :: b :: rest) => { s with line := { s.line with tx := .driving (b :: rest) } }
    | .driving _ => s.completeSend
    | _ =>
      let s := s.lapse 1
      let s := if s.replyLeft = some 0 then s.replyExpired else s
      let s := if s.holdoffLeft = some 0 then s.holdoffExpired else s
      s.gapEnds.transmit
  else s

/-! ### The commands -/

/-- TRANSMIT_START: the idle count reaches 44 and the WAITING transmitter goes to DRIVING (R3); the idle bit times still
wanting pass first (log 4). -/
def execTransmitStart (s : State) : Host.Outcome State Fault Refusal :=
  match s.line.tx with
  | .waiting _ => .next (s.lapse (Config.frameGap - s.line.idle)).transmit
  | _ => .next s

/-- SEND_COMPLETE: the end of the frame being driven (R4, R54, R68); the bits still to be driven pass first (log 4). -/
def execSendComplete (s : State) : Host.Outcome State Fault Refusal :=
  match s.line.tx with
  | .driving _ => .next s.completeSend
  | _ => .next s

/-- The line while a character is received (R2, R5): the idle count stands at 0, and a stop bit taken low leaves the line
low. The character takes 11 bit times of a running hold-off (log 16). -/
def State.duringCharacter (s : State) (stop : Bool) : State :=
  { s with
    line := { s.line with idle := 0, low := !stop }
    exchange := s.exchange.map fun x =>
      { x with holdoffTimer := x.holdoffTimer.map fun n => n - Config.characterBits } }

/-- CHARACTER_RECEIVED (R5, R6, R7). A closed receiver accepts no character (R4, R9); of one that ends with the line low
the low line is left (R2; log 22). Nor does a receiver accept one whose line has not been high since it went low (R5). -/
def execCharacterReceived (data : Byte) (parity stop : Bool) (s : State) : Host.Outcome State Fault Refusal :=
  if s.line.rx = .closed then .next { s with line := { s.line with low := s.line.low || !stop } }
  else if s.line.low then .next s
  else .next ((s.duringCharacter stop).takeCharacter data (characterFault data parity stop))

/-- FRAME_CONFIRMATION: the idle count exceeds 22 (R6); the idle bit times still wanting pass first (log 4). -/
def execFrameConfirmation (s : State) : Host.Outcome State Fault Refusal :=
  if s.line.rx.midFrame then .next (s.lapse (Config.characterGap + 1 - s.line.idle)) else .next s

/-- REPLY_TIMER_EXPIRY (R55): what is left of the timer passes first (log 4); an expiry outside AWAITING has no
effect. -/
def execReplyTimerExpiry (s : State) : Host.Outcome State Fault Refusal :=
  match s.replyLeft with
  | some n => .next (s.lapse n).replyExpired
  | none => .next s

/-- RETRY_GAP_END (R60): the idle bit times still wanting pass first (log 4). -/
def execRetryGapEnd (s : State) : Host.Outcome State Fault Refusal :=
  if s.inRetryGap then .next (s.lapse (Config.frameGap - s.line.idle)).gapEnds else .next s

/-- HOLDOFF_EXPIRY (R68): what is left of the timer passes first (log 4). -/
def execHoldoffExpiry (s : State) : Host.Outcome State Fault Refusal :=
  match s.holdoffLeft with
  | some n => .next (s.lapse n).holdoffExpired
  | none => .next s

/-- LINE_RETURNS_HIGH (R2, R5): a line held low outside a character, whenever it went low, returns high (log 22); the
idle count counts again from 0, and the receiver looks for the next falling edge. -/
def execLineReturnsHigh (s : State) : Host.Outcome State Fault Refusal :=
  .next { s with line := { s.line with low := false, idle := 0 } }

end Sys2Proof.Machine
end

