-- ==== Sys2Proof/Machine/SlowTime.lean ====
section
/-! DEFINITION. Slow time (Chapters 2, 4 and 5): the tick, the poll tick and what it brings due. -/

namespace Sys2Proof.Machine

open Sys2Proof

/-- An event of R79 at a poll tick: a reprobe joins the service list, or a poll cycle opens. -/
inductive PollEvent where
  | reprobe (k : Nat)
  | cycle
deriving DecidableEq, Repr

/-- One event of a poll tick, and the choice that follows it (R79). -/
def State.pollEvent (s : State) (e : PollEvent) : State :=
  match e with
  | .reprobe k => (s.appendReprobe k).settle true
  | .cycle => { s with arbiter := s.arbiter.openCycle }.settle true

/-- The events of a poll tick, taken in an order that is open (R79, R95): with two or more left, the free value racePick
decides (log 7). -/
def State.pollEvents (n : Nat) (events : List PollEvent) (s : State) : State :=
  match n with
  | 0 => s
  | n + 1 =>
    match events with
    | [] => s
    | [e] => s.pollEvent e
    | e :: rest =>
      let i := Config.racePick s.races % (rest.length + 1)
      State.pollEvents n ((e :: rest).eraseIdx i)
        (State.pollEvent { s with races := s.races + 1 } ((e :: rest).getD i e))

/-- The overrun of R96: the count rises by 1, wrapping, and every OPEN or DOZING port is handed OVERRUN. -/
def State.overrun (s : State) : State :=
  { s with arbiter := { s.arbiter with overruns := s.arbiter.overruns + 1 } }.updPorts fun _ u =>
    if u.state.admits then { u with sticky := u.sticky.setOverrun } else u

/-- The poll timer is loaded again at the poll tick (R95). -/
def State.reloadPollTimer (s : State) : State :=
  { s with arbiter := { s.arbiter with pollTimer := some s.loader.params.pollPeriod } }

/-- The poll tick at its three owners (R95): the lives of the watches (R110), the reprobe countdowns (R35) and the poll
cycle (R96), then the events of R79 that these bring. -/
def State.pollTick (s : State) : State :=
  let due := s.reprobesDue
  let opens := s.loader.params.pollingEnabled && !s.arbiter.cycleOpen
  let overruns := s.loader.params.pollingEnabled && s.arbiter.cycleOpen
  let s := s.reloadPollTimer.ageWatches
  let s := { s with table := s.table.map countDown }
  let s := if overruns then s.overrun else s
  let events := due.map PollEvent.reprobe ++ (if opens then [.cycle] else [])
  s.pollEvents events.length events

/-- TICK (R95): the poll timer decreases by 1, and at 0 the poll tick comes in the same change. A stopped timer takes no
tick. -/
def execTick (s : State) : Host.Outcome State Fault Refusal :=
  match s.arbiter.pollTimer with
  | none => .next s
  | some n => if n ≤ 1 then .next s.pollTick else .next { s with arbiter := { s.arbiter with pollTimer := some (n - 1) } }

/-- POLL_TICK (R95): the poll timer expires; the ticks still wanting pass first (log 4). -/
def execPollTick (s : State) : Host.Outcome State Fault Refusal :=
  match s.arbiter.pollTimer with
  | none => .next s
  | some _ => .next s.pollTick

/-- REPROBE_DUE (R35): the countdown of an OFFLINE entry goes from 1 to 0 and its reprobe joins the service list. The
row is one entry's share of a poll tick (log 5). -/
def execReprobeDue (slot : Fin 32) (s : State) : Host.Outcome State Fault Refusal :=
  match s.entry slot.val with
  | some e =>
    if s.run = .running ∧ e.state = .offline ∧ e.countdown = 1 then
      .next (((s.setEntry slot.val (some { e with countdown := 0 })).appendReprobe slot.val).settle true)
    else .next s
  | none => .next s

/-- WATCH_EXPIRED (R110): the life of an ARMED watch goes from 1 to 0 and the watch is BROKEN with cause EXPIRED. The row
is one slot's share of a poll tick (log 5). -/
def execWatchExpired (p : Port) (k : WatchNo) (s : State) : Host.Outcome State Fault Refusal :=
  if s.run = .running then .next (s.expireWatch p k) else .next s

end Sys2Proof.Machine
end

