-- ==== Sys2Proof/Machine/Dispatch.lean ====
section
/-! DEFINITION. The meaning of each command: one arm for each constructor of `Instr`. -/

namespace Sys2Proof.Machine

open Sys2Proof

def exec (i : Instr) (s : State) : Host.Outcome State Fault Refusal :=
  match i with
  | .powerOnReset => Sys2Proof.Machine.execPowerOnReset s
  | .loadStart => Sys2Proof.Machine.execLoadStart s
  | .loadEnd lines => Sys2Proof.Machine.execLoadEnd lines s
  | .warmRestart => Sys2Proof.Machine.execWarmRestart s
  | .warmRestartEnd => Sys2Proof.Machine.execWarmRestartEnd s
  | .channelOperation p op => Sys2Proof.Machine.execChannelOperation p op s
  | .transactionEnd p => Sys2Proof.Machine.execTransactionEnd p s
  | .submitWord p w => Sys2Proof.Machine.execSubmitWord p w s
  | .takeCompletion p => Sys2Proof.Machine.execTakeCompletion p s
  | .takeReport p => Sys2Proof.Machine.execTakeReport p s
  | .statusRead p full => Sys2Proof.Machine.execStatusRead p full s
  | .openPort p => Sys2Proof.Machine.execOpen p s
  | .doze p => Sys2Proof.Machine.execDoze p s
  | .wakeup p => Sys2Proof.Machine.execWakeup p s
  | .close p => Sys2Proof.Machine.execClose p s
  | .clear p flags => Sys2Proof.Machine.execClear p flags s
  | .mask p flags => Sys2Proof.Machine.execMask p flags s
  | .force p flags => Sys2Proof.Machine.execForce p flags s
  | .invalidControlOperation p w => Sys2Proof.Machine.execInvalidControlOperation p w s
  | .read p h address first count more => Sys2Proof.Machine.execRead p h address first count more s
  | .write p h address first count values => Sys2Proof.Machine.execWrite p h address first count values s
  | .cwrite p h address first count values => Sys2Proof.Machine.execCwrite p h address first count values s
  | .attach p h address more => Sys2Proof.Machine.execAttach p h address more s
  | .detach p h address more => Sys2Proof.Machine.execDetach p h address more s
  | .release p h more => Sys2Proof.Machine.execRelease p h more s
  | .filterMode p h mode more => Sys2Proof.Machine.execFilterMode p h mode more s
  | .filterListAdd p h station group more => Sys2Proof.Machine.execFilterListAdd p h station group more s
  | .filterListRemove p h station group more => Sys2Proof.Machine.execFilterListRemove p h station group more s
  | .filterHashSet p h station group more => Sys2Proof.Machine.execFilterHashSet p h station group more s
  | .filterHashClear p h station group more => Sys2Proof.Machine.execFilterHashClear p h station group more s
  | .filterClearAll p h more => Sys2Proof.Machine.execFilterClearAll p h more s
  | .wakeset p h number enabled station point bits compare more => Sys2Proof.Machine.execWakeset p h number enabled station point bits compare more s
  | .queryStation p h address more => Sys2Proof.Machine.execQueryStation p h address more s
  | .queryChanges p h more => Sys2Proof.Machine.execQueryChanges p h more s
  | .queryWatches p h more => Sys2Proof.Machine.execQueryWatches p h more s
  | .queryLine p h more => Sys2Proof.Machine.execQueryLine p h more s
  | .mark p h more => Sys2Proof.Machine.execMark p h more s
  | .unassignedKind p kind h words => Sys2Proof.Machine.execUnassignedKind p kind h words s
  | .transmitStart => Sys2Proof.Machine.execTransmitStart s
  | .sendComplete => Sys2Proof.Machine.execSendComplete s
  | .characterReceived data parity stop => Sys2Proof.Machine.execCharacterReceived data parity stop s
  | .frameConfirmation => Sys2Proof.Machine.execFrameConfirmation s
  | .replyTimerExpiry => Sys2Proof.Machine.execReplyTimerExpiry s
  | .retryGapEnd => Sys2Proof.Machine.execRetryGapEnd s
  | .holdoffExpiry => Sys2Proof.Machine.execHoldoffExpiry s
  | .tick => Sys2Proof.Machine.execTick s
  | .pollTick => Sys2Proof.Machine.execPollTick s
  | .reprobeDue slot => Sys2Proof.Machine.execReprobeDue slot s
  | .watchExpired p k => Sys2Proof.Machine.execWatchExpired p k s
  | .transactionBegin p => Sys2Proof.Machine.execTransactionBegin p s
  | .lineReturnsHigh => Sys2Proof.Machine.execLineReturnsHigh s

end Sys2Proof.Machine
end

