-- ==== Sys2Proof/Machine/Station.lean ====
section
/-! DEFINITION. A station of the field line, as R22-R26 describe it. A station is no state of the part and no step uses
this file (log 18): it stands beside the part for what the spec says of the two together (R23, R39, R41). -/

namespace Sys2Proof.Machine

open Sys2Proof

/-- A station: its points from 0 to its highest, its write toggle (none, 0 or 1), its pending reports, oldest first, and
its sequence bit (R18, R23, R25). -/
structure Station where
  address : Byte
  capable : Bool
  points : List Half
  toggle : Option Bool
  sequence : Bool
  reports : List (List Item)
deriving DecidableEq, Repr

/-- A received frame that a station takes up (R22): its control byte and payload. -/
structure Heard where
  control : Byte
  payload : List Byte
deriving DecidableEq, Repr

namespace Heard

def kind (f : Heard) : BitVec 4 := f.control.extractLsb' 0 4
def t (f : Heard) : Bool := f.control.getLsbD 4
def k (f : Heard) : Bool := f.control.getLsbD 6
def v (f : Heard) : Bool := f.control.getLsbD 7
def first (f : Heard) : Nat := (halfOfBytes (f.payload.getD 0 0) (f.payload.getD 1 0)).toNat
def count (f : Heard) : Nat := (f.payload.getD 2 0).toNat
def values (f : Heard) : List Half := halvesOfBytes (f.payload.drop 3)

end Heard

namespace Station

/-- What a station takes up (R22): a frame free of faults, with the marker, a length that fits and a good check, from
240 to its own address or to 0. -/
def takesUp (st : Station) (chars : List Byte) (faultFree : Bool) : Option Heard :=
  let destination := chars.getD 1 0
  if faultFree = true ∧ chars.getD 0 0 = Config.marker ∧ (chars.getD 4 0).toNat ≤ Config.maxPayload
      ∧ chars.length = (chars.getD 4 0).toNat + 7 ∧ crc16 (coveredBytes chars) = checkOf chars
      ∧ chars.getD 2 0 = Config.selfAddress ∧ (destination = st.address ∨ destination = 0) then
    some ⟨chars.getD 3 0, (coveredBytes chars).drop 4⟩
  else none

/-- A frame of the station to the part (R10). -/
def frame (st : Station) (control : Byte) (payload : List Byte) : List Byte :=
  frameOf Config.selfAddress st.address control payload

def refuse (st : Station) (reason : Byte) : List (List Byte) :=
  [st.frame (controlByte false false false false kindRefuse) [reason]]

/-- The values written to the points from `first` on; a point the station does not have is passed over (R23, R24). -/
def setPoints (points : List Half) : Nat → List Half → List Half
  | _, [] => points
  | first, v :: rest => setPoints (points.set first v) (first + 1) rest

/-- The ack in K, as a POLL or a PING with V = 1 carries it (R25, R26): an acked head leaves and the bit flips. -/
def acked (st : Station) (k : Bool) : Station :=
  if k = st.sequence then { st with reports := st.reports.tail, sequence := !st.sequence } else st

/-- REPORT with the head, M saying whether more stand behind it, or NOTHING (R21, R25). -/
def offer (st : Station) : List Byte :=
  match st.reports with
  | [] => st.frame (controlByte false false false false kindNothing) []
  | items :: rest =>
    st.frame (controlByte false false (!rest.isEmpty) st.sequence kindReport)
      (BitVec.ofNat 8 items.length :: items.flatMap fun i => bytesOfHalf i.point ++ bytesOfHalf i.value)

/-- POLL (R25, R21): a station that is not report-capable answers NOTHING. -/
def poll (st : Station) (k : Bool) : Station × List (List Byte) :=
  if st.capable then
    let st := st.acked k
    (st, [st.offer])
  else (st, [st.frame (controlByte false false false false kindNothing) []])

/-- PING that the station answers with PONG (R26). -/
def ping (st : Station) (k v : Bool) : Station × List (List Byte) :=
  let st := { st with toggle := none }
  let st := if v then st.acked k else { st with sequence := false }
  (st, [st.frame (controlByte false false false false kindPong)
    (BitVec.ofNat 8 st.capable.toNat :: bytesOfHalf (BitVec.ofNat 16 (st.points.length - 1)))])

/-- An addressed WRITE (R23): a duplicate is accepted and not applied again; points beyond the highest are refused
NOPOINT. -/
def write (st : Station) (f : Heard) : Station × List (List Byte) :=
  let accept := [st.frame (controlByte false false false false kindAccept) []]
  if st.toggle = some f.t then (st, accept)
  else if st.points.length < f.first + f.count then (st, st.refuse 1)
  else ({ st with points := setPoints st.points f.first f.values, toggle := some f.t }, accept)

/-- The ANSWER fragments of a READ. DESIGN CHOICE (log 18): each but the last holds 32 values; R19 lets a station put
fewer. -/
def answers (st : Station) : Nat → Nat → List Half → List (List Byte)
  | 0, _, _ => []
  | fuel + 1, index, values =>
    let more := decide (32 < values.length)
    st.frame (controlByte false false more false kindAnswer)
        (BitVec.ofNat 8 index :: (values.take 32).flatMap bytesOfHalf)
      :: (if more then answers st fuel (index + 1) (values.drop 32) else [])

/-- READ (R19, R20). -/
def read (st : Station) (f : Heard) : Station × List (List Byte) :=
  if st.points.length < f.first + f.count then (st, st.refuse 1)
  else (st, st.answers 4 0 ((st.points.drop f.first).take f.count))

/-- A broadcast WRITE (R24): applied without a reply, toggle and reports unchanged. -/
def broadcast (st : Station) (f : Heard) : Station := { st with points := setPoints st.points f.first f.values }

/-- A frame taken up, and the frames sent in reply. `refusal` is the reason of a station that will not carry the frame
out (R20): toggle and reports stay as they were, and a duplicate WRITE is accepted all the same (R23). -/
def respond (st : Station) (destination : Byte) (refusal : Option Byte) (f : Heard) : Station × List (List Byte) :=
  if destination = 0 then (if f.kind = kindWrite ∧ refusal = none then (st.broadcast f, []) else (st, []))
  else
    match refusal with
    | some reason =>
      if f.kind = kindWrite ∧ st.toggle = some f.t then st.write f else (st, st.refuse reason)
    | none =>
      if f.kind = kindPing then st.ping f.k f.v
      else if f.kind = kindRead then st.read f
      else if f.kind = kindWrite then st.write f
      else if f.kind = kindPoll then st.poll f.k
      else (st, [])

end Station

end Sys2Proof.Machine
end

