-- ==== Sys2Proof/WellFormed.lean ====
section
/-! DEFINITION. Which terms of `Instr` spell the command they name: a request row carries the whole record its header's
length calls for (R143, R144), an unassigned kind is unassigned (R193), the control word of INVALID_CONTROL_OPERATION is
one that some port state takes as no change (R167), and a load reads at most 64 bytes (R184). Every other term is
well-formed. `exec` gives every term an effect, well-formed or not. -/

namespace Sys2Proof

open Sys2Proof.Machine

/-- The port and the words of the record that a request row carries; none for every other row. -/
def Instr.record : Instr → Option (Port × List Word)
  | .read p h address first count more => some (p, lineRecord reqRead h address first count more)
  | .write p h address first count values => some (p, lineRecord reqWrite h address first count values)
  | .cwrite p h address first count values => some (p, lineRecord reqCwrite h address first count values)
  | .attach p h address more => some (p, headerWord reqAttach h :: addressWord address :: more)
  | .detach p h address more => some (p, headerWord reqDetach h :: addressWord address :: more)
  | .release p h more => some (p, headerWord reqRelease h :: 0 :: more)
  | .filterMode p h mode more => some (p, filterRecord h 1 mode 0 more)
  | .filterListAdd p h station group more => some (p, filterRecord h 2 station group more)
  | .filterListRemove p h station group more => some (p, filterRecord h 3 station group more)
  | .filterHashSet p h station group more => some (p, filterRecord h 4 station group more)
  | .filterHashClear p h station group more => some (p, filterRecord h 5 station group more)
  | .filterClearAll p h more => some (p, filterRecord h 6 0 0 more)
  | .wakeset p h number enabled station point bits compare more =>
    some (p, wakesetRecord h number enabled station point bits compare more)
  | .queryStation p h address more => some (p, queryRecord h 1 address more)
  | .queryChanges p h more => some (p, queryRecord h 2 0 more)
  | .queryWatches p h more => some (p, queryRecord h 3 0 more)
  | .queryLine p h more => some (p, queryRecord h 4 0 more)
  | .mark p h more => some (p, headerWord reqMark h :: 0 :: more)
  | .unassignedKind p kind h words => some (p, headerWord kind h :: words)
  | _ => none

/-- The words are one whole record: as many as the length of the header, as taken, calls for (R143, R144). -/
def wholeRecord : List Word → Bool
  | [] => false
  | header :: body => decide (body.length + 1 = takenLength header)

/-- An unassigned request kind (R193). -/
def unassigned (kind : BitVec 4) : Bool :=
  !([reqRead, reqWrite, reqCwrite, reqAttach, reqDetach, reqRelease, reqFilter, reqWakeset, reqQuery, reqMark].contains
    kind)

/-- A control word that some port state takes as no change: an unassigned operation, or one of OPEN, DOZE, WAKEUP and
CLOSE (R167). -/
def canBeInvalid (w : Word) : Bool :=
  match controlOp w with
  | some .clear => false
  | some .mask => false
  | some .force => false
  | _ => true

def Instr.wf (i : Instr) : Bool :=
  (match i with
    | .loadEnd lines => decide (lines.bytes.length ≤ Config.imageBytes)
    | .invalidControlOperation _ w => canBeInvalid w
    | .unassignedKind _ kind _ _ => unassigned kind
    | _ => true)
  && (match i.record with
    | some (_, words) => wholeRecord words
    | none => true)

end Sys2Proof
end

