-- ==== Sys2Proof/Safety.lean ====
section
/-! DEFINITION. The invariants of the machine, the conditions under which statements speak of a command, and the shapes of
what a command leaves. -/

namespace Sys2Proof.Machine

open Sys2Proof

/-! ### Invariants -/

/-- The credits (R146, R166): every port's credits, its requests not yet ended and its records not yet taken come to 16; a
CLOSED port holds no work and a CLOSING port at most its request in flight; a request in flight has its exchange in the
record, with the discard flag set when its port is CLOSING; and until the load ends every port is CLOSED. -/
structure CreditInv (s : State) : Prop where
  accounted : ∀ p, (s.port p).credits + (s.port p).queue.length + (s.port p).inFlight.toList.length
    + (s.port p).completions.length = Config.credits
  closed : ∀ p, (s.port p).state = .closed →
    (s.port p).queue = [] ∧ (s.port p).inFlight = none ∧ (s.port p).completions = []
  closing : ∀ p, (s.port p).state = .closing → (s.port p).queue = [] ∧ (s.port p).completions = []
  flight : ∀ p, (s.port p).inFlight.isSome = true →
    ∃ x, s.exchange = some x ∧ x.origin = .port p ∧ ((s.port p).state = .closing → x.discard = true)
  unloaded : s.run = .powerOn ∨ s.run = .loading → ∀ p, (s.port p).state = .closed

/-- The Station Table (R27, R47, R37): 32 slots; every entry in use has a station address of its own and an attached
port, and its gap marks and changed set hold attached ports only. -/
structure TableInv (s : State) : Prop where
  slots : s.table.length = Config.stationSlots
  address : ∀ k e, s.entry k = some e → stationAddress e.address = true
  attached : ∀ k e, s.entry k = some e → PortSet.isEmpty e.attached = false
  distinct : ∀ j k e f, s.entry j = some e → s.entry k = some f → e.address = f.address → j = k
  gaps : ∀ k e p, s.entry k = some e → e.gaps.get p = true → e.attached.get p = true
  changed : ∀ k e p, s.entry k = some e → e.changed.get p = true → e.attached.get p = true

/-- Port p is attached to an entry in use for address a (R27). -/
def State.Attached (s : State) (p : Port) (a : Byte) : Prop :=
  ∃ k e, s.entry k = some e ∧ e.address = a ∧ e.attached.get p = true

/-- The watch slots (R99, R102, R104, R110, R114): an EMPTY slot holds the values of R99, every other slot covers a range
of a station whose entry is in use and to which the slot's port is attached, only a BROKEN slot has a cause, and an ARMED
watch has life left. With them what keeps a slot's station attached: the exchange of a port is its request in flight
(R147), a watched READ has its port attached to the entry of its slot unless a flag is set (R71, R74, R75), and a pairing
stands while its resync PING is in flight and a WRITE or CWRITE is the paired head (R91). -/
structure WatchInv (s : State) : Prop where
  empty : ∀ p k, (s.watch p k).state = .empty → s.watch p k = Watch.emptySlot
  covers : ∀ p k, (s.watch p k).state ≠ .empty → (s.watch p k).cover.isSome = true
  cause : ∀ p k, (s.watch p k).state = .broken ↔ (s.watch p k).cause ≠ .none
  alive : ∀ p k, (s.watch p k).state = .armed → (s.watch p k).life ≠ .ticks 0
  attached : ∀ p k c, (s.watch p k).cover = some c → s.Attached p c.station
  flight : ∀ x p, s.exchange = some x → x.origin = .port p → (s.port p).inFlight.isSome = true
  watching : ∀ x p k, s.exchange = some x → x.origin = .port p → x.kind = .read → x.watchSlot = some k →
    x.orphan = false → x.discard = false →
    ∃ j e, x.slot = some j ∧ s.entry j = some e ∧ e.address = x.address ∧ e.attached.get p = true
  pairing : ∀ p, s.arbiter.pairing = some p → (∃ x, s.exchange = some x ∧ x.purpose = .resync)
    ∧ ∃ r rest, (s.port p).queue = r :: rest ∧ (r.isWrite = true ∨ r.isCwrite = true)

/-- The limits of the stores and counts (R2, R84, R85, R86, R130, R135). A closed cycle stands at slot 0 (log 15), and a
POLL is in flight only while the cycle is open. -/
structure LimitInv (s : State) : Prop where
  idle : s.line.idle ≤ Config.frameGap
  reports : ∀ p, (s.port p).reports.length ≤ Config.reportPlaces
  keys : ∀ p, (s.routing.get p).keys.length ≤ Config.listKeys ∧ (s.routing.get p).keys.Nodup
  cursor : s.arbiter.cursor < Config.stationSlots
  cycleClosed : s.arbiter.cycleOpen = false → s.arbiter.cursor = 0 ∧ s.arbiter.burstCount = 0
  polling : ∀ x, s.exchange = some x → x.purpose = .poll → s.arbiter.cycleOpen = true
  burst : s.arbiter.burstCount ≤ Config.burstLimit
  burstAtRest : (∀ x, s.exchange = some x → x.purpose ≠ .poll) → s.arbiter.burstCount < Config.burstLimit
  burstAddress : s.arbiter.burstCount = 0 ↔ s.arbiter.burstAddress = none

/-- The ranges of the line parameters (R186). -/
structure ParamsInRange (p : LineParams) : Prop where
  rateCode : p.rateCode ≤ 5
  replyTimeout : 44 ≤ p.replyTimeout ∧ p.replyTimeout ≤ 8191
  retryLimit : p.retryLimit ≤ 7
  failureThreshold : 1 ≤ p.failureThreshold ∧ p.failureThreshold ≤ 15
  pollPeriod : 1 ≤ p.pollPeriod ∧ p.pollPeriod ≤ 255
  reprobeInterval : 1 ≤ p.reprobeInterval ∧ p.reprobeInterval ≤ 255
  watchLifetime : p.watchLifetime ≤ 255
  holdoff : p.holdoff ≤ 4095
  weights : ∀ q, 1 ≤ p.weights.get q ∧ p.weights.get q ≤ 4

/-- The line parameters stay in their ranges (R186). -/
def ParamInv (s : State) : Prop := ParamsInRange s.loader.params

/-- The service list (R81): no slot stands on it twice; a probe is for an entry in PROBING, a reprobe for an OFFLINE entry
whose countdown is 0; and a probe or reprobe in flight is for such an entry, which is not on the list, unless it is
orphaned. The table keeps 32 slots, and a reprobe interval is at least 1. -/
structure ServiceInv (s : State) : Prop where
  slots : s.table.length = Config.stationSlots
  interval : 1 ≤ s.loader.params.reprobeInterval
  once : (s.arbiter.serviceList.map (·.slot)).Nodup
  probes : ∀ i ∈ s.arbiter.serviceList, i.purpose = .probe →
    ∃ e, s.entry i.slot = some e ∧ e.address = i.address ∧ e.state = .probing
  reprobes : ∀ i ∈ s.arbiter.serviceList, i.purpose = .reprobe →
    ∃ e, s.entry i.slot = some e ∧ e.address = i.address ∧ e.state = .offline ∧ e.countdown = 0
  probing : ∀ x k, s.exchange = some x → x.slot = some k → x.orphan = false → x.purpose = .probe →
    (∃ e, s.entry k = some e ∧ e.address = x.address ∧ e.state = .probing)
      ∧ ∀ i ∈ s.arbiter.serviceList, i.slot ≠ k
  reprobing : ∀ x k, s.exchange = some x → x.slot = some k → x.orphan = false → x.purpose = .reprobe →
    (∃ e, s.entry k = some e ∧ e.address = x.address ∧ e.state = .offline ∧ e.countdown = 0)
      ∧ ∀ i ∈ s.arbiter.serviceList, i.slot ≠ k

/-- A Port Unit as power-on reset left it, whatever its transaction does (R181). -/
def PortUnit.untouched (u : PortUnit) : Prop := { u with link := Link.idle } = PortUnit.reset

/-- While PORST is asserted and while the load runs, the rest of the part is held (R182). -/
def LoadInv (s : State) : Prop :=
  s.run = .powerOn ∨ s.run = .loading →
    (∀ p, (s.port p).untouched) ∧ s.table = List.replicate Config.stationSlots none ∧ s.exchange = none
      ∧ s.arbiter = Arbiter.reset ∧ s.watches = Quad.fill (Quad.fill Watch.emptySlot)
      ∧ s.routing = Quad.fill Routing.cleared
      ∧ s.line.tx = .released ∧ s.line.rx = .closed ∧ s.line.idle = 0

/-! ### Conditions on a state -/

/-- No port has a local request that may execute (R147). -/
def State.Quiet (s : State) : Prop := ∀ q, s.localReady q = false

/-- A transaction of port p acts on SUBMIT, with no record begun (R142, R143). -/
structure State.Submitting (s : State) (p : Port) : Prop where
  acts : s.acts p .submit = true
  fresh : (s.port p).staging = []

/-- Port p admits submissions and holds a credit (R145). -/
structure State.Accepting (s : State) (p : Port) : Prop where
  admits : (s.port p).state.admits = true
  credit : (s.port p).credits ≠ 0

/-- Port p has no work of its own under way. -/
structure State.Unoccupied (s : State) (p : Port) : Prop where
  queue : (s.port p).queue = []
  mark : (s.port p).headMark = .none
  flight : (s.port p).inFlight = none

/-- A record submitted now on port p becomes the head at once and, when it is a local request, executes (R145, R147). -/
structure State.LocalTurn (s : State) (p : Port) : Prop where
  submitting : s.Submitting p
  accepting : s.Accepting p
  unoccupied : s.Unoccupied p
  quiet : s.Quiet

/-- A line request submitted now on port p is the one request there is, and the choice that follows serves it: the record
is idle, nothing is on the service list, and no cycle is open (R79, R80, R88). -/
structure State.LineTurn (s : State) (p : Port) : Prop where
  submitting : s.Submitting p
  accepting : s.Accepting p
  unoccupied : s.Unoccupied p
  alone : ∀ q, (s.port q).queue = []
  idle : s.exchange = none
  service : s.arbiter.serviceList = []
  cycle : s.arbiter.cycleOpen = false
  weight : ∀ q, 1 ≤ s.loader.params.weights.get q

/-- Nothing on the part calls for the line: every queue and the service list are empty and no cycle is open. -/
structure State.NothingWaits (s : State) : Prop where
  queues : ∀ q, (s.port q).queue = []
  service : s.arbiter.serviceList = []
  cycle : s.arbiter.cycleOpen = false

/-! ### Shapes of a result -/

/-- From s to t no port but p changed. -/
def OnlyPort (s t : State) (p : Port) : Prop := ∀ q, q ≠ p → t.port q = s.port q

/-- From s to t nothing but the ports changed. -/
def OnlyPorts (s t : State) : Prop := { t with ports := s.ports } = s

/-- The Port Unit after a local request of port p has completed in the change that submitted it (R147, R161, R142): its
credit is held by the record c, and the part has sent zeros. -/
def PortUnit.localDone (u : PortUnit) (c : Completion) : PortUnit :=
  { u with
    credits := u.credits - 1
    completions := u.completions ++ [c]
    link := { u.link with sent := some 0 } }

/-- The completion record of a local request other than a FILTER (R161): its kind and tag, no attempts, and first point and
count 0. -/
def localRecord (kind : BitVec 4) (h : Header) (station : Byte) (status : Status) (detail : BitVec 4)
    (body : List Word) : Completion where
  kind := kind
  status := status
  detail := detail
  tag := h.tag
  station := station
  first := 0
  count := 0
  attempts := 0
  body := body

/-- The completion record of a FILTER (R161, R133, Section 10.3): the mode's code and the number of keys stand in first
point and count. -/
def filterDone (h : Header) (station : Byte) (status : Status) (mode : FilterMode) (keys : Nat) : Completion :=
  { localRecord 11#4 h station status 0 [] with
    first := match mode with
      | .none => 0
      | .exact => 1
      | .hashed => 2
      | .all => 3
    count := BitVec.ofNat 8 keys }

/-- From s to t a local request of port p completed with the record c; no other port changed. -/
structure LocalDone (s t : State) (p : Port) (c : Completion) : Prop where
  port : t.port p = (s.port p).localDone c
  others : OnlyPort s t p

/-- From s to t nothing changed but the ports and the routing state of port p. -/
structure OnlyRouting (s t : State) (p : Port) : Prop where
  rest : { t with ports := s.ports, routing := s.routing } = s
  routing : ∀ q, q ≠ p → t.routing.get q = s.routing.get q

/-- The Port Unit after its line request was submitted and its exchange started in the same change (R90). -/
def PortUnit.lineStarted (u : PortUnit) (r : Request) : PortUnit :=
  { u with
    credits := u.credits - 1
    inFlight := some r
    link := { u.link with sent := some 0 } }

/-- The Arbiter after port p was served and its exchange started (R88, R90): the turn is p's, and u has risen by 1. -/
structure TurnUsed (s t : State) (p : Port) : Prop where
  pointer : t.arbiter.pointer = p
  used : t.arbiter.used
    = (if s.arbiter.pointer = p ∧ s.arbiter.used < s.loader.params.weights.get p then s.arbiter.used else 0) + 1
  rest : { t.arbiter with pointer := s.arbiter.pointer, used := s.arbiter.used, pairing := s.arbiter.pairing }
    = s.arbiter

end Sys2Proof.Machine
end

