-- ==== Sys2Proof/Certificates/Slice0/Obligations.lean ====
section
/-! DEFINITION. The statements about the machine, from the numbered rules of spec/. -/

open Sys2Proof Sys2Proof.Machine

/-! ### The queue of commands and time -/

/-- A step with a command at the front of the queue is that command's effect with the queue's rest. -/
def Obligations.StepRunsTheFrontCommand : Prop :=
  ∀ (s : State) (c : Instr) (rest : List Instr), s.pending = c :: rest → step s = exec c { s with pending := rest }

/-- Every command answers a next state in every state, and leaves the commands that wait as they are. (A command whose
event cannot happen answers the state as it is: DESIGN CHOICE, log 9. POWER_ON_RESET keeps the commands that wait:
DESIGN CHOICE, log 10.) -/
def Obligations.EveryCommandAnswersANextState : Prop :=
  ∀ (c : Instr) (s : State), ∃ t, exec c s = .next t ∧ t.pending = s.pending

/-- On an empty queue one bit time passes (DESIGN CHOICE, log 3). A part that does not run stands still. A WAITING
transmitter on a quiet line, its exchange in SENDING, has its idle count raised by 1 up to 44, and drives its frame when
the count reaches 44 (R2, R3); a driving transmitter sends its next bit. -/
def Obligations.EmptyQueuePassesOneBitTime : Prop :=
  ∀ s : State, s.pending = [] →
    (s.run ≠ .running → step s = .next s)
    ∧ (∀ f x, s.run = .running → s.exchange = some x → x.phase = .sending → x.replyTimer = none →
        x.holdoffTimer = none →
        (s.line = ⟨.waiting f, .hunting, s.line.idle, false⟩ → s.line.idle < 43 →
          step s = .next { s with line := { s.line with idle := s.line.idle + 1 } })
        ∧ (s.line = ⟨.waiting f, .hunting, 43, false⟩ →
          step s = .next { s with line := ⟨.driving (frameBits f), .closed, 0, false⟩ }))
    ∧ (∀ b c bits, s.run = .running → s.line.tx = .driving (b :: c :: bits) →
        step s = .next { s with line := { s.line with tx := .driving (c :: bits) } })

/-! ### Start-up -/

/-- The machine at reset satisfies every invariant. (The line parameters before a load, on which ParamInv and ServiceInv
rest, are the model's choice, log 2.) -/
def Obligations.ResetSatisfiesTheInvariants : Prop :=
  CreditInv State.reset ∧ TableInv State.reset ∧ WatchInv State.reset ∧ LimitInv State.reset ∧ ParamInv State.reset
    ∧ ServiceInv State.reset ∧ LoadInv State.reset ∧ State.reset.Quiet

/-- POWER_ON_RESET (R181, R182, R50, R52, R97, R120, R141, R9) from any state. LOAD_START (R182): the load begins at
CLEARING with an empty buffer, every port shows LOADING, and nothing else changes. A LOAD_START where PORST is not
asserted is no event (log 9). -/
def Obligations.PowerOnResetAndLoadStart : Prop :=
  (∀ s : State, ∃ t, exec .powerOnReset s = .next t
    ∧ t.run = .powerOn ∧ t.loader.phase = none ∧ t.loader.image = []
    ∧ (∀ p, (t.port p).untouched ∧ t.interruptOutput p = false ∧ t.wakeOutput p = false)
    ∧ (∀ k, t.entry k = none) ∧ t.exchange = none ∧ t.arbiter = Arbiter.reset
    ∧ (∀ p k, t.watch p k = Watch.emptySlot) ∧ (∀ p, t.routing.get p = Routing.cleared)
    ∧ t.line.tx = .released ∧ t.line.rx = .closed ∧ t.line.driverEnable = false)
    ∧ (∀ s : State,
        (s.run = .powerOn → ∃ t, exec .loadStart s = .next t ∧ t.run = .loading ∧ t.loader.phase = some .clearing
          ∧ t.loader.image = [] ∧ (∀ p, (t.statusWord p).getLsbD 29 = true)
          ∧ { t with run := s.run, loader := s.loader } = s)
        ∧ (s.run ≠ .powerOn → exec .loadStart s = .next s))

/-- LOAD_END (R188, R30, R181, R9, R97), after power-on reset has left the part as it does: the load is judged on what
the configuration lines gave; the kept pre-attach entries stand in slots 0 upward in PROBING with the values of R28; the
ports of the open-at-start set are OPEN with 16 credits and the others CLOSED, CONFIG is set on every port unless the
result is LOADED; the line is enabled; the poll timer is loaded; and the first exchange is the probe of slot 0, with the
probes behind it on the service list, or none. -/
def Obligations.LoadEndStartsThePart : Prop :=
  ∀ (s : State) (lines : ConfigLines), s.run = .loading → LoadInv s →
    ∃ t, exec (.loadEnd lines) s = .next t ∧ t.run = .running
      ∧ (let j := judge (readMemory lines).2
        t.loader = Loader.finished (readMemory lines).2.image (readMemory lines).1 j
        ∧ (∀ p, t.port p = { s.port p with
              state := if j.params.openAtStart.get p then .opened else .closed
              sticky := { Sticky.allClear with config := decide (j.result ≠ .loaded) } })
        ∧ (∀ k, t.entry k = (j.kept[k]?).map fun kept => newEntry kept.1 kept.2)
        ∧ t.arbiter.pollTimer = some j.params.pollPeriod ∧ t.arbiter.cycleOpen = false
        ∧ t.line.rx = .hunting ∧ t.line.idle = 0
        ∧ (match j.kept with
          | [] => t.exchange = none ∧ t.arbiter.serviceList = [] ∧ t.line.tx = .released
          | first :: rest =>
            t.exchange = some (pingExchange .probe 0 (newEntry first.1 first.2))
            ∧ t.line.tx = .waiting (pingFrame first.1 ⟨false, false⟩)
            ∧ t.arbiter.serviceList.map (fun i => (i.address, i.purpose)) = rest.map fun k => (k.1, .probe)))

/-- What the load comes to (R183, R185-R187, R197), from what the configuration lines gave (log 13). CFGSDA low through
the ninth pulse, or an addressing byte not acknowledged, gives DEFAULTED_ABSENT; a wrong format mark gives
DEFAULTED_FORMAT; else a wrong check word gives DEFAULTED_CHECK; each with every default, every port open and nothing
kept. Otherwise each field in its range takes the value of its bytes and each field out of it its default, and the
result is ADJUSTED when a field was out of range or a pre-attach entry was dropped or merged, and LOADED if not. The
pre-attach entries (two bytes each from byte 20 on) as settled (R187): an entry counts when its address is a station
address and its port set, masked with the open-at-start set, is not empty. Each address that counts is kept once, in the
order of first appearance, with the union of the masked sets of all its entries. No more are kept than were given, no
two of one address, each a station address with a non-empty set of ports of the open-at-start set; one was dropped or
merged exactly when fewer were kept than were used. On the bus (R183, R184): each byte is nine clock pulses, its bits
most significant first and an acknowledge that holds CFGSDA low; after CLEARING the Loader sends 0x50 with the write
direction, 0, and 0x50 with the read direction (the direction bit: PRESUMED, log 23), stops at the first that is not
acknowledged, and else reads 64 bytes, of which it acknowledges all but the last; a bus that stays low is not addressed.
-/
def Obligations.LoadResultsAndPreAttachEntries : Prop :=
  (∀ lines : ConfigLines,
    let image := imageOf lines.bytes
    let b (k : Nat) : Nat := (image.getD k 0).toNat
    let field (lo hi default value : Nat) : Nat := if lo ≤ value ∧ value ≤ hi then value else default
    let out (lo hi value : Nat) : Prop := value < lo ∨ hi < value
    let j := judge (readMemory lines).2
    if 10 ≤ lines.lowLooks ∨ lines.ackWrite = false ∨ lines.ackByte = false ∨ lines.ackRead = false then
      j = ⟨.defaultedAbsent, Config.defaults, []⟩
    else image.length = 64 ∧
      (if image.getD 0 0 ≠ 0x3C#8 then j = ⟨.defaultedFormat, Config.defaults, []⟩
      else if crc16 (image.take 62) ≠ image.getD 62 0 ++ image.getD 63 0 then j = ⟨.defaultedCheck, Config.defaults, []⟩
      else (j.result = .loaded ∨ j.result = .adjusted)
        ∧ j.params = {
            rateCode := field 0 5 1 (b 1), replyTimeout := field 44 8191 440 (256 * b 2 + b 3)
            retryLimit := field 0 7 2 (b 4), failureThreshold := field 1 15 3 (b 5), pollPeriod := field 1 255 50 (b 6)
            pollingEnabled := if b 7 = 1 then true else if b 7 = 0 then false else true
            reprobeInterval := field 1 255 10 (b 8), watchLifetime := b 9, holdoff := field 0 4095 220 (256 * b 10 + b 11)
            weights := ⟨field 1 4 1 (b 12), field 1 4 1 (b 13), field 1 4 1 (b 14), field 1 4 1 (b 15)⟩
            openAtStart := ⟨(image.getD 16 0).getLsbD 0, (image.getD 16 0).getLsbD 1, (image.getD 16 0).getLsbD 2,
              (image.getD 16 0).getLsbD 3⟩ }
        ∧ j.kept = (settlePreAttach j.params.openAtStart (preAttachEntries image)).1
        ∧ (j.result = .adjusted ↔ (out 0 5 (b 1) ∨ out 44 8191 (256 * b 2 + b 3) ∨ out 0 7 (b 4) ∨ out 1 15 (b 5)
            ∨ out 1 255 (b 6) ∨ out 0 1 (b 7) ∨ out 1 255 (b 8) ∨ out 0 4095 (256 * b 10 + b 11) ∨ out 1 4 (b 12)
            ∨ out 1 4 (b 13) ∨ out 1 4 (b 14) ∨ out 1 4 (b 15))
          ∨ (settlePreAttach j.params.openAtStart (preAttachEntries image)).2 = true)))
    ∧ (∀ (openSet : PortSet) (entries : List (Byte × PortSet)),
        let kept := (settlePreAttach openSet entries).1
        kept.length ≤ entries.length ∧ (kept.map (·.1)).Nodup
          ∧ (∀ k ∈ kept, stationAddress k.1 = true ∧ PortSet.isEmpty k.2 = false
            ∧ ∀ p, k.2.get p = true → openSet.get p = true)
          ∧ ((settlePreAttach openSet entries).2 = true
            ↔ kept.length < (entries.filter fun e => e.1 != 0 || !PortSet.isEmpty e.2).length)
          ∧ (let counting := entries.filter fun e =>
              stationAddress e.1 && decide (∃ p : Port, e.2.get p = true ∧ openSet.get p = true)
            (∀ a, a ∈ kept.map (·.1) ↔ a ∈ counting.map (·.1))
              ∧ (kept.map (·.1)).Pairwise (fun a b =>
                (counting.map (·.1)).idxOf a < (counting.map (·.1)).idxOf b)
              ∧ ∀ k ∈ kept, ∀ p, k.2.get p = true
                ↔ ∃ e ∈ counting, e.1 = k.1 ∧ e.2.get p = true ∧ openSet.get p = true))
    ∧ (∀ image : List Byte, (preAttachEntries image).length = 8
        ∧ ∀ k, k < 8 → (preAttachEntries image)[k]? = some (image.getD (20 + 2 * k) 0,
          ⟨(image.getD (21 + 2 * k) 0).getLsbD 0, (image.getD (21 + 2 * k) 0).getLsbD 1,
            (image.getD (21 + 2 * k) 0).getLsbD 2, (image.getD (21 + 2 * k) 0).getLsbD 3⟩))
    ∧ (∀ lines : ConfigLines,
        let image := imageOf lines.bytes
        let ops := (readMemory lines).1
        let sent (side other : BusSide) (ack : Bool) (b : Byte) : List BusOp :=
          [7, 6, 5, 4, 3, 2, 1, 0].map (fun i => BusOp.pulse side (b.getLsbD i)) ++ [.pulse other (!ack)]
        (10 ≤ lines.lowLooks → .start ∉ ops)
        ∧ (lines.lowLooks ≤ 9 → ∃ front, .start ∉ front ∧ .repeatedStart ∉ front ∧ ops = front
          ++ .start :: sent .loader .memory lines.ackWrite 0xA0#8
          ++ (if lines.ackWrite = false then [.stop]
            else sent .loader .memory lines.ackByte 0#8
              ++ (if lines.ackByte = false then [.stop]
                else .repeatedStart :: sent .loader .memory lines.ackRead 0xA1#8
                  ++ (if lines.ackRead = false then [.stop]
                    else (image.take 63).flatMap (sent .memory .loader true)
                      ++ sent .memory .loader false (image.getD 63 0) ++ [.stop])))))

/-- WARM_RESTART after the load (R190, R9, R77, R51, R98, R120, R141, R148, R180): what each block clears and what it
keeps; an entry stays as it stands but for the changes shown, with any heard claim of the abandoned exchange (DESIGN
CHOICE, log 25). An assertion during the load is passed over (R190); one while PORST is asserted or while a restart runs
changes nothing (DESIGN CHOICE, log 9). -/
def Obligations.WarmRestartClearsAndKeeps : Prop :=
  ∀ s : State,
    (s.run ≠ .running → exec .warmRestart s = .next s)
    ∧ (s.run = .running → ∃ t, exec .warmRestart s = .next t
      ∧ t.run = .restarting ∧ t.loader = s.loader ∧ t.exchange = none ∧ t.routing = s.routing
      ∧ t.line.tx = .released ∧ t.line.rx = .closed
      ∧ (∀ p k, t.watch p k = Watch.emptySlot)
      ∧ (∀ k, t.entry k = (s.entry k).map fun e => { e with
            toggle := none, gaps := PortSet.empty
            countdown := if e.state = .offline ∧ e.countdown = 0 then s.loader.params.reprobeInterval else e.countdown })
      ∧ t.arbiter.serviceList = (List.range s.table.length).filterMap (fun k =>
          match s.entry k with
          | some e => if e.state = .probing then some ⟨k, e.address, .probe⟩ else none
          | none => none)
      ∧ t.arbiter.cycleOpen = false ∧ t.arbiter.cursor = 0 ∧ t.arbiter.burstCount = 0
      ∧ t.arbiter.burstAddress = none ∧ t.arbiter.overruns = 0 ∧ t.arbiter.pointer = 0 ∧ t.arbiter.used = 0
      ∧ t.arbiter.pairing = none ∧ t.arbiter.pollTimer = none
      ∧ (∀ p, t.interruptOutput p = false ∧ t.wakeOutput p = false)
      ∧ ∀ p,
        (t.port p).state = (if (s.port p).state = .closing then .closed else (s.port p).state)
        ∧ (t.port p).sticky = { Sticky.allClear with wake := (s.port p).sticky.wake }
        ∧ (t.port p).mask = (s.port p).mask ∧ (t.port p).restarted = true
        ∧ (t.port p).queue = (s.port p).queue ∧ (t.port p).inFlight = none
        ∧ (t.port p).headMark = (if (s.port p).headMark = .paired then .none else (s.port p).headMark)
        ∧ (t.port p).credits = (s.port p).credits + (s.port p).inFlight.toList.length
        ∧ (t.port p).completions = (s.port p).completions ∧ (t.port p).completionPos = 0
        ∧ (t.port p).reports = [] ∧ (t.port p).reportPos = 0 ∧ (t.port p).staging = [])

/-- WARM_RESTART_END (R98, R9, R95): the line is enabled, the poll timer loaded with the poll period, and the Arbiter
chooses: the first probe of the rebuilt list starts. With no probe and nothing queued the part stays idle. Where no
restart runs the command changes nothing (DESIGN CHOICE, log 9). -/
def Obligations.WarmRestartEndResumes : Prop :=
  ∀ s : State,
    (s.run ≠ .restarting → exec .warmRestartEnd s = .next s)
    ∧ (s.run = .restarting → ∃ t, exec .warmRestartEnd s = .next t ∧ t.run = .running ∧ t.loader = s.loader
      ∧ t.arbiter.pollTimer = some s.loader.params.pollPeriod)
    ∧ (s.run = .restarting → s.NothingWaits → s.exchange = none →
      exec .warmRestartEnd s = .next { s with
        run := .running
        line := { s.line with tx := .released, rx := .hunting, idle := 0 }
        arbiter := { s.arbiter with pollTimer := some s.loader.params.pollPeriod } })
    ∧ (∀ item rest e, s.run = .restarting → (∀ q, (s.port q).queue = []) → s.exchange = none →
      s.arbiter.serviceList = item :: rest → s.entry item.slot = some e →
      exec .warmRestartEnd s = .next { s with
        run := .running
        exchange := some (pingExchange (if item.purpose = .probe then .probe else .reprobe) item.slot e)
        line := { s.line with
          tx := .waiting (pingExchange (if item.purpose = .probe then .probe else .reprobe) item.slot e).frame
          rx := .hunting, idle := 0 }
        arbiter := { s.arbiter with serviceList := rest, pollTimer := some s.loader.params.pollPeriod } })

/-! ### Transactions -/

/-- TRANSACTION_BEGIN, CHANNEL_OPERATION and TRANSACTION_END (R142, R143, R164): a transaction begins void while the load
or a restart runs; its first byte selects the channel and no later one does; its end discards an incomplete record and
returns both read positions to 0. Nothing else of the part changes. A TRANSACTION_BEGIN on an asserted select, and a
CHANNEL_OPERATION on a deasserted one or after the first byte, change nothing (DESIGN CHOICE, log 9); a transaction that
begins while PORST is asserted is void (log 10). -/
def Obligations.TransactionsSelectAndEnd : Prop :=
  ∀ (s : State) (p : Port) (op : Byte),
    ((s.port p).link.selected = false → exec (.transactionBegin p) s = .next (s.setPort p { s.port p with
        link := ⟨true, decide (s.run ≠ .running), none, false, none⟩ }))
    ∧ ((s.port p).link.selected = true → exec (.transactionBegin p) s = .next s)
    ∧ ((s.port p).link.selected = true → (s.port p).link.channel = none →
      exec (.channelOperation p op) s = .next (s.setPort p { s.port p with
        link := { (s.port p).link with channel := some (
          if op = 0x01#8 then .submit else if op = 0x02#8 then .takeCompletion else if op = 0x03#8 then .takeReport
          else if op = 0x04#8 then .status else if op = 0x05#8 then .control else .unassigned) } }))
    ∧ ((s.port p).link.selected = false ∨ (s.port p).link.channel.isSome = true →
      exec (.channelOperation p op) s = .next s)
    ∧ exec (.transactionEnd p) s = .next (s.setPort p { s.port p with
        staging := [], completionPos := 0, reportPos := 0, link := ⟨false, false, none, false, none⟩ })

/-- In a void transaction (R142) every word is disregarded and answered with 0: no record is submitted or taken, no
control operation is taken, and nothing of the part changes but the word sent. -/
def Obligations.VoidTransactionsChangeNothing : Prop :=
  ∀ (s : State) (p : Port), s.void p = true →
    (∀ w, exec (.submitWord p w) s = .next (s.send p 0))
    ∧ (∀ i words, i.record = some (p, words) → exec i s = .next (s.send p 0))
    ∧ (∀ i ∈ [Instr.takeCompletion p, Instr.takeReport p, Instr.openPort p, Instr.doze p, Instr.wakeup p,
        Instr.close p], exec i s = .next (s.send p 0))
    ∧ ∀ flags w, exec (.clear p flags) s = .next (s.send p 0) ∧ exec (.mask p flags) s = .next (s.send p 0)
      ∧ exec (.force p flags) s = .next (s.send p 0) ∧ exec (.invalidControlOperation p w) s = .next (s.send p 0)

/-- SUBMIT_WORD (R143, R144): a word that leaves its record incomplete joins the staging buffer, and the part sends 0;
nothing else changes. A length of 0, 1 or above 18 is taken as 2. The word that makes the record complete on a CLOSED
port leaves an empty buffer (R145). -/
def Obligations.SubmitWordStages : Prop :=
  ∀ (s : State) (p : Port) (w : Word), s.acts p .submit = true →
    (∀ header body, (s.port p).staging ++ [w] = header :: body → body.length + 1 ≠ takenLength header →
      exec (.submitWord p w) s = .next ((s.send p 0).updPort p fun u => { u with staging := header :: body }))
    ∧ (∀ header body, (s.port p).staging ++ [w] = header :: body → body.length + 1 = takenLength header →
      (s.port p).state = .closed → s.Quiet →
      exec (.submitWord p w) s = .next ((s.send p 0).updPort p fun u => { u with staging := [] }))
    ∧ ∀ header : Word, takenLength header
        = (if header.toNat % 256 < 2 ∨ 18 < header.toNat % 256 then 2 else header.toNat % 256)

/-- The commit of a whole record (R145, R146), for every request row: in CLOSED and CLOSING it is dropped; with no credit
it is dropped and REFUSED is set; otherwise it joins the tail of the queue and uses a credit. (A record that becomes a
head that may be taken up is the matter of the statements on its kind.) -/
def Obligations.CommitDropsRefusesOrQueues : Prop :=
  ∀ (s : State) (p : Port) (i : Instr) (header : Word) (body : List Word),
    i.record = some (p, header :: body) → i.wf = true → s.Submitting p → s.Quiet →
    ((s.port p).state = .closed ∨ (s.port p).state = .closing → exec i s = .next (s.send p 0))
    ∧ ((s.port p).state = .opened ∨ (s.port p).state = .dozing → (s.port p).credits = 0 →
      exec i s = .next ((s.send p 0).updPort p fun u => { u with sticky := { u.sticky with refused := true } }))
    ∧ ((s.port p).state = .opened ∨ (s.port p).state = .dozing → (s.port p).credits ≠ 0 →
      (s.port p).queue ≠ [] ∨ ((s.port p).inFlight.isSome = true ∧ s.exchange.isSome = true) →
      exec i s = .next ((s.send p 0).updPort p fun u =>
        { u with queue := u.queue ++ [⟨header, body⟩], credits := u.credits - 1 }))

/-- The two TAKE channels (R164, R132): the words of the head record in turn; at its last word the record leaves, its
credit returns (report records hold none) and the position is 0 again; from an empty queue and after the one record of
the transaction the part sends 0. When select is deasserted first, the record stays and the position returns to 0.
Nothing else changes. -/
def Obligations.TakesSendTheHeadRecords : Prop :=
  (∀ (s : State) (p : Port), s.acts p .takeCompletion = true →
    let u := s.port p
    ((u.link.finished = true ∨ u.completions = []) →
      exec (.takeCompletion p) s = .next (s.setPort p { u with link := { u.link with finished := true, sent := some 0 } }))
    ∧ ∀ c rest, u.link.finished = false → u.completions = c :: rest →
      (u.completionPos + 1 < c.words.length →
        exec (.takeCompletion p) s = .next (s.setPort p { u with
          completionPos := u.completionPos + 1
          link := { u.link with sent := some (c.words.getD u.completionPos 0) } }))
      ∧ (u.completionPos + 1 = c.words.length →
        exec (.takeCompletion p) s = .next (s.setPort p { u with
          completions := rest, completionPos := 0, credits := u.credits + 1
          link := { u.link with finished := true, sent := some (c.words.getD u.completionPos 0) } })))
    ∧ (∀ (s : State) (p : Port), s.acts p .takeReport = true →
        let u := s.port p
        ((u.link.finished = true ∨ u.reports = []) →
          exec (.takeReport p) s = .next (s.setPort p { u with link := { u.link with finished := true, sent := some 0 } }))
        ∧ ∀ r rest, u.link.finished = false → u.reports = r :: rest →
          (u.reportPos + 1 < r.words.length →
            exec (.takeReport p) s = .next (s.setPort p { u with
              reportPos := u.reportPos + 1
              link := { u.link with sent := some (r.words.getD u.reportPos 0) } }))
          ∧ (u.reportPos + 1 = r.words.length →
            exec (.takeReport p) s = .next (s.setPort p { u with
              reports := rest, reportPos := 0
              link := { u.link with finished := true, sent := some (r.words.getD u.reportPos 0) } })))
    ∧ ∀ (s : State) (p : Port), ∃ t, exec (.transactionEnd p) s = .next t
      ∧ (t.port p).completions = (s.port p).completions ∧ (t.port p).reports = (s.port p).reports
      ∧ (t.port p).completionPos = 0 ∧ (t.port p).reportPos = 0 ∧ (t.port p).credits = (s.port p).credits

/-- STATUS_READ (R178, R179): the status word is sent, and a word sent in full clears the RESTARTED indication; a word
cut short changes nothing; nothing else ever changes. While the load runs the word is 0x203FC000 (R196). The layout of
the status word (Section 10.6, R196): each field of the port is read back from its bits. (That the word is sent while
PORST is asserted, and shows LOADING clear then: DESIGN CHOICE, log 11.) -/
def Obligations.StatusReadSendsTheStatusWord : Prop :=
  (∀ (s : State) (p : Port), s.acts p .status = true →
    exec (.statusRead p true) s = .next (s.setPort p { s.port p with
        restarted := false, link := { (s.port p).link with sent := some (s.statusWord p) } })
    ∧ exec (.statusRead p false) s = .next s
    ∧ (LoadInv s → s.run = .loading → s.statusWord p = 0x203FC000#32))
    ∧ (∀ (s : State) (p : Port),
        let u := s.port p
        let w := s.statusWord p
        u.credits + u.completions.length ≤ 16 → u.reports.length ≤ 32 →
          w.extractLsb' 30 2 = (match u.state with | .closed => 0#2 | .opened => 1#2 | .dozing => 2#2 | .closing => 3#2)
          ∧ (w.getLsbD 29 = true ↔ s.run = .loading) ∧ w.getLsbD 28 = u.restarted
          ∧ (w.extractLsb' 22 6).toNat = u.reports.length
          ∧ w.extractLsb' 14 8 = (if u.credits = 16 then 0xFF#8 else if u.completions.length = 16 then 0xFE#8
              else BitVec.ofNat 8 (u.credits * 16 + u.completions.length))
          ∧ w.getLsbD 8 = u.sticky.changed ∧ w.getLsbD 9 = u.sticky.broken ∧ w.getLsbD 10 = u.sticky.refused
          ∧ w.getLsbD 11 = u.sticky.overrun ∧ w.getLsbD 12 = u.sticky.config ∧ w.getLsbD 13 = u.sticky.wake
          ∧ w.extractLsb' 0 8 = u.mask)

/-! ### Control operations -/

/-- OPEN (R168): a CLOSED port becomes OPEN with 16 credits; nothing else changes. In any other state it is no change
(R167). DOZE and WAKEUP (R169, R176, R177): they move the port between OPEN and DOZING and change no other state; at
DOZE the interrupt output is deasserted and the wake output follows WAKE, at WAKEUP the wake output is deasserted and
the interrupt output follows the flags in the mask. Where they are not allowed they are no change (R167).
INVALID_CONTROL_OPERATION (R167, R196): a control word whose operation byte is 0 or 8 to 255, or whose operation is
not allowed in the port's state, is taken as no change; the part sends 0. -/
def Obligations.OpenDozeAndWakeupMoveThePort : Prop :=
  (∀ (s : State) (p : Port), s.acts p .control = true →
    ((s.port p).state = .closed →
      exec (.openPort p) s = .next ((s.send p 0).updPort p fun u => { u with state := .opened, credits := 16 }))
    ∧ ((s.port p).state ≠ .closed → exec (.openPort p) s = .next (s.send p 0)))
    ∧ (∀ (s : State) (p : Port), s.acts p .control = true →
        ((s.port p).state = .opened → ∃ t, exec (.doze p) s = .next t
          ∧ t = (s.send p 0).updPort p (fun u => { u with state := .dozing })
          ∧ t.interruptOutput p = false ∧ t.wakeOutput p = (s.port p).sticky.wake)
        ∧ ((s.port p).state = .dozing → ∃ t, exec (.wakeup p) s = .next t
          ∧ t = (s.send p 0).updPort p (fun u => { u with state := .opened })
          ∧ t.wakeOutput p = false ∧ t.interruptOutput p = decide ((s.port p).flags &&& (s.port p).mask ≠ 0))
        ∧ ((s.port p).state ≠ .opened → exec (.doze p) s = .next (s.send p 0))
        ∧ ((s.port p).state ≠ .dozing → exec (.wakeup p) s = .next (s.send p 0)))
    ∧ (∀ (s : State) (p : Port) (w : Word), s.acts p .control = true →
        let op := (w.extractLsb' 24 8).toNat
        let state := (s.port p).state
        (op = 0 ∨ 8 ≤ op ∨ (op = 1 ∧ state ≠ .closed) ∨ (op = 2 ∧ state ≠ .opened) ∨ (op = 3 ∧ state ≠ .dozing)
          ∨ (op = 4 ∧ (state = .closed ∨ state = .closing))) →
        exec (.invalidControlOperation p w) s = .next (s.send p 0))

/-- CLOSE (R170, R74, R94, R119, R46, R141, R172) of an OPEN or DOZING port: its queues are emptied with a credit for each
request and each record, its watches emptied, its routing cleared, its sticky flags but WAKE cleared and its mask kept;
it is CLOSING with a request in flight, whose exchange has the discard flag, and CLOSED with none; a pairing that names it
is cancelled; it is in no attached set, changed set or gap mark; an entry it was alone on is freed, with its probe or
reprobe off the service list (R44, R83) and an exchange to it orphaned. Nothing else changes. -/
def Obligations.CloseEmptiesThePort : Prop :=
  ∀ (s : State) (p : Port), s.acts p .control = true →
    ((s.port p).state = .closed ∨ (s.port p).state = .closing → exec (.close p) s = .next (s.send p 0))
    ∧ ((s.port p).state = .opened ∨ (s.port p).state = .dozing → TableInv s → ∃ t, exec (.close p) s = .next t
      ∧ t.port p = { s.port p with
          state := if (s.port p).inFlight.isSome then .closing else .closed
          sticky := { Sticky.allClear with wake := (s.port p).sticky.wake }
          credits := (s.port p).credits + (s.port p).queue.length + (s.port p).completions.length
          queue := [], headMark := .none, completions := [], completionPos := 0, reports := [], reportPos := 0
          link := { (s.port p).link with sent := some 0 } }
      ∧ OnlyPort s t p
      ∧ (∀ k, t.watch p k = Watch.emptySlot) ∧ (∀ q k, q ≠ p → t.watch q k = s.watch q k)
      ∧ t.routing = s.routing.set p Routing.cleared
      ∧ t.arbiter = { s.arbiter with
          pairing := if s.arbiter.pairing = some p then none else s.arbiter.pairing
          serviceList := s.arbiter.serviceList.filter fun i =>
            match s.entry i.slot with
            | some e => decide (e.attached ≠ PortSet.single p)
            | none => true }
      ∧ (s.exchange = none → t.exchange = none)
      ∧ (∀ x, s.exchange = some x → ∃ o, t.exchange = some { x with
          discard := x.discard || decide (x.origin = .port p), orphan := o }
        ∧ (o = true ↔ x.orphan = true ∨ ∃ k e, x.slot = some k ∧ s.entry k = some e ∧ e.attached = PortSet.single p))
      ∧ (∀ k, t.entry k = (match s.entry k with
          | none => none
          | some e =>
            if e.attached = PortSet.single p then none
            else some { e with
              attached := PortSet.remove e.attached p
              changed := PortSet.remove e.changed p
              gaps := PortSet.remove e.gaps p }))
      ∧ { t with
          ports := s.ports, watches := s.watches, routing := s.routing, arbiter := s.arbiter, exchange := s.exchange
          table := s.table } = s)

/-- CLEAR, MASK and FORCE (R172) in any port state: each sticky flag follows its bit of the flag set, bits 0 and 1 are
passed over by CLEAR and FORCE, MASK takes all eight, and nothing else changes. -/
def Obligations.ClearMaskAndForceActOnTheFlags : Prop :=
  ∀ (s : State) (p : Port) (flags : Byte), s.acts p .control = true →
    exec (.clear p flags) s = .next ((s.send p 0).updPort p fun u => { u with sticky := {
        changed := u.sticky.changed && !flags.getLsbD 2, broken := u.sticky.broken && !flags.getLsbD 3
        refused := u.sticky.refused && !flags.getLsbD 4, overrun := u.sticky.overrun && !flags.getLsbD 5
        config := u.sticky.config && !flags.getLsbD 6, wake := u.sticky.wake && !flags.getLsbD 7 } })
    ∧ exec (.mask p flags) s = .next ((s.send p 0).updPort p fun u => { u with mask := flags })
    ∧ exec (.force p flags) s = .next ((s.send p 0).updPort p fun u => { u with sticky := {
        changed := u.sticky.changed || flags.getLsbD 2, broken := u.sticky.broken || flags.getLsbD 3
        refused := u.sticky.refused || flags.getLsbD 4, overrun := u.sticky.overrun || flags.getLsbD 5
        config := u.sticky.config || flags.getLsbD 6, wake := u.sticky.wake || flags.getLsbD 7 } })

/-! ### Line requests at the choice -/

/-- The start checks of a line request (R149), in their order, and R193's reading of its fields. -/
def Obligations.StartChecksComeInOrder : Prop :=
  ∀ (s : State) (p : Port) (r : Request), r.isLine = true →
    let last := r.first.toNat + r.count.toNat - 1
    let most := if r.kind = 1#4 then 128 else 32
    let called := if r.kind = 1#4 then 2 else 2 + (r.count.toNat + 1) / 2
    let badReq : Prop := r.badLength = true ∨ r.length ≠ called ∨ r.count.toNat < 1 ∨ most < r.count.toNat
      ∨ 65535 < last ∨ (r.top = 0 ∧ r.kind ≠ 2#4) ∨ 200 < r.top.toNat ∨ (r.watch = true ∧ r.kind ≠ 1#4)
    (badReq → s.startCheck p r = some .badReq)
    ∧ (¬ badReq → r.kind = 2#4 → r.top = 0 → s.startCheck p r = none)
    ∧ (¬ badReq → ¬ (r.kind = 2#4 ∧ r.top = 0) →
      (s.entryOf r.top = none → s.startCheck p r = some .notAttached)
      ∧ ∀ e, s.entryOf r.top = some e →
        (e.attached.get p = false → s.startCheck p r = some .notAttached)
        ∧ (e.attached.get p = true →
          (e.state = .offline → s.startCheck p r = some .offline)
          ∧ (e.state ≠ .offline → e.highest.toNat < last → s.startCheck p r = some .range)
          ∧ (e.state ≠ .offline → last ≤ e.highest.toNat → s.startCheck p r = none)))

/-- The search of the port rotation (R88): with every weight at least 1 it finds a port exactly when one is eligible; the
port it finds is eligible, and its u is below its weight; the turn stays with the present port while that is eligible and
its turns last, and otherwise goes, with u at 0, to the first eligible port after it. -/
def Obligations.RotationServesTheNextEligiblePort : Prop :=
  ∀ (eligible : Port → Bool) (weight : Port → Nat) (start : Port) (u : Nat), (∀ q, 1 ≤ weight q) →
    ((∀ q, eligible q = false) → rotate eligible weight 5 start u = none)
    ∧ (eligible start = true → u < weight start → rotate eligible weight 5 start u = some (start, u))
    ∧ (¬ (eligible start = true ∧ u < weight start) →
      ∀ n : Fin 4, eligible (start + 1 + n) = true → (∀ m : Fin 4, m < n → eligible (start + 1 + m) = false) →
        rotate eligible weight 5 start u = some (start + 1 + n, 0))

/-- A line request that fails its start checks (R89): READ, WRITE or CWRITE submitted as the one request there is
completes with the status of the failed check and attempts 0; no frame is sent and u is not raised. One that names a
station in PROBING is not eligible (R87): it stays queued and nothing starts. Nor does anything start while an exchange
is in flight: the request joins the tail of the queue (R79, R87). (Request rows: log 6.) -/
def Obligations.FailedStartCheckCompletesTheRequest : Prop :=
  (∀ (s : State) (p : Port) (i : Instr) (header : Word) (body : List Word) (status : Status),
    i.record = some (p, header :: body) → i.wf = true → Request.isLine ⟨header, body⟩ = true →
    s.LineTurn p → s.startCheck p ⟨header, body⟩ = some status → (∀ e, s.entryOf (Request.top ⟨header, body⟩) = some e →
      e.state ≠ .probing) →
    ∃ t c, exec i s = .next t ∧ t.port p = (s.port p).localDone c ∧ OnlyPort s t p
      ∧ c.status = status ∧ c.detail = 0 ∧ c.attempts = 0 ∧ c.kind = Request.kind ⟨header, body⟩
      ∧ c.tag = Request.tag ⟨header, body⟩ ∧ c.station = Request.top ⟨header, body⟩
      ∧ c.first = Request.first ⟨header, body⟩ ∧ c.count = Request.count ⟨header, body⟩ ∧ c.body = []
      ∧ t.exchange = none ∧ t.line = s.line ∧ t.table = s.table ∧ t.watches = s.watches ∧ t.routing = s.routing
      ∧ t.arbiter.pointer = p
      ∧ t.arbiter.used = (if s.arbiter.pointer = p ∧ s.arbiter.used < s.loader.params.weights.get p then s.arbiter.used
          else 0))
    ∧ (∀ (s : State) (p : Port) (i : Instr) (header : Word) (body : List Word),
        i.record = some (p, header :: body) → i.wf = true → Request.isLine ⟨header, body⟩ = true →
        (s.LineTurn p ∧ (∃ e, s.entryOf (Request.top ⟨header, body⟩) = some e ∧ e.state = .probing))
          ∨ (s.Submitting p ∧ s.Accepting p ∧ s.Quiet ∧ s.exchange.isSome = true) →
        exec i s = .next ((s.send p 0).updPort p fun u =>
          { u with queue := u.queue ++ [⟨header, body⟩], credits := u.credits - 1 }))
    ∧ (∀ (s : State) (p : Port) (r : Request) (rest : List Request), (s.port p).queue = r :: rest →
        (s.eligible p = true ↔ r.isLine = true ∧ ∀ e, s.entryOf r.top = some e → e.state ≠ .probing))

/-- READ (R150, R90, R53, R101, R14): a READ that passes its start checks starts a READ exchange in the change that
submits it: it is the request in flight, its frame is given to the Line Interface, u has risen by 1, and a watched READ
has emptied the slot it names. Nothing else changes. -/
def Obligations.ReadStartsItsExchange : Prop :=
  ∀ (s : State) (p : Port) (h : Header) (a : Byte) (first : Half) (count : Byte) (k : Nat),
    h.length = 2#8 → s.LineTurn p → s.slotOf a = some k →
    s.startCheck p ⟨headerWord 1#4 h, [lineWord a first count]⟩ = none →
    (∀ e, s.entryOf a = some e → e.state ≠ .probing) →
    ∃ t x, exec (.read p h a first count []) s = .next t
      ∧ t.port p = (s.port p).lineStarted ⟨headerWord 1#4 h, [lineWord a first count]⟩ ∧ OnlyPort s t p
      ∧ t.exchange = some x ∧ x.origin = .port p ∧ x.kind = .read ∧ x.purpose = .request ∧ x.slot = some k
      ∧ x.address = a ∧ x.frame = readFrame a first count.toNat ∧ x.attempt = 1 ∧ x.phase = .sending
      ∧ x.first = first ∧ x.count = count.toNat ∧ x.watchSlot = (if h.watch then some h.slot else none)
      ∧ x.orphan = false ∧ x.discard = false ∧ x.buffer = []
      ∧ t.line = s.line.give x.frame ∧ TurnUsed s t p
      ∧ (∀ q j, t.watch q j = if h.watch = true ∧ q = p ∧ j = h.slot then Watch.emptySlot else s.watch q j)
      ∧ t.arbiter.pairing = none ∧ { t with
          ports := s.ports, watches := s.watches, arbiter := s.arbiter, exchange := s.exchange, line := s.line } = s

/-- WRITE (R151, R90, R53, R15) to a station whose toggle is known: a WRITE exchange starts with that toggle in its
frame. With the toggle UNKNOWN (R91) the request stays at the head, PAIRED, and a resync PING with V = 1 and K the
report ack bit starts in its place; u does not rise. A WRITE to address 0 (R151, R149, R90, R16): a BROADCAST exchange
starts with no slot and T sent as 0, with no check but BADREQ. -/
def Obligations.WritesStartOrArePaired : Prop :=
  (∀ (s : State) (p : Port) (h : Header) (a : Byte) (first : Half) (count : Byte) (values : List Word) (k : Nat) (e : Entry),
    let r : Request := ⟨headerWord 2#4 h, lineWord a first count :: values⟩
    wholeRecord (r.header :: r.body) = true → s.LineTurn p → a ≠ 0 → s.slotOf a = some k → s.entry k = some e →
    e.state ≠ .probing → s.startCheck p r = none →
    (∀ tog, e.toggle = some tog → ∃ t x, exec (.write p h a first count values) s = .next t
      ∧ t.port p = (s.port p).lineStarted r ∧ OnlyPort s t p
      ∧ t.exchange = some x ∧ x.origin = .port p ∧ x.kind = .write ∧ x.slot = some k ∧ x.address = a
      ∧ x.toggleSent = some tog ∧ x.frame = writeFrame a tog first r.values ∧ x.attempt = 1 ∧ x.phase = .sending
      ∧ x.first = first ∧ x.count = count.toNat
      ∧ t.line = s.line.give x.frame ∧ TurnUsed s t p ∧ t.table = s.table ∧ t.watches = s.watches
      ∧ t.routing = s.routing)
    ∧ (e.toggle = none → ∃ t x, exec (.write p h a first count values) s = .next t
      ∧ t.port p = { s.port p with
          credits := (s.port p).credits - 1, queue := [r], headMark := .paired
          link := { (s.port p).link with sent := some 0 } }
      ∧ OnlyPort s t p
      ∧ t.exchange = some x ∧ x.origin = .internal ∧ x.kind = .ping ∧ x.purpose = .resync ∧ x.slot = some k
      ∧ x.address = e.address ∧ x.frame = pingFrame e.address ⟨e.ack, true⟩ ∧ x.attempt = 1 ∧ x.phase = .sending
      ∧ t.arbiter.pairing = some p ∧ t.arbiter.pointer = p
      ∧ t.arbiter.used = (if s.arbiter.pointer = p ∧ s.arbiter.used < s.loader.params.weights.get p then s.arbiter.used
          else 0)
      ∧ t.line = s.line.give x.frame ∧ t.table = s.table ∧ t.watches = s.watches ∧ t.routing = s.routing))
    ∧ (∀ (s : State) (p : Port) (h : Header) (first : Half) (count : Byte) (values : List Word),
        let r : Request := ⟨headerWord 2#4 h, lineWord 0 first count :: values⟩
        wholeRecord (r.header :: r.body) = true → s.LineTurn p → r.lineBad = false → s.slotOf 0 = none →
        ∃ t x, exec (.write p h 0 first count values) s = .next t
          ∧ t.port p = (s.port p).lineStarted r ∧ OnlyPort s t p
          ∧ t.exchange = some x ∧ x.origin = .port p ∧ x.kind = .broadcast ∧ x.slot = none ∧ x.address = 0
          ∧ x.toggleSent = none ∧ x.frame = writeFrame 0 false first r.values ∧ x.attempt = 1 ∧ x.phase = .sending
          ∧ t.line = s.line.give x.frame ∧ TurnUsed s t p ∧ t.table = s.table ∧ t.watches = s.watches
          ∧ t.routing = s.routing)

/-- CWRITE (R152, R111-R114) past its first four checks: a slot that is not ARMED completes it LOST with the slot's cause
and is emptied; an ARMED slot on another station, or whose range does not hold the write, completes it MISMATCH and stays
as it is; else the slot becomes COMMITTING, and the CWRITE-as-WRITE exchange starts, or the request is paired with a
resync PING when the toggle is UNKNOWN. -/
def Obligations.CwriteIsLostMismatchedOrCommitted : Prop :=
  ∀ (s : State) (p : Port) (h : Header) (a : Byte) (first : Half) (count : Byte) (values : List Word) (k : Nat) (e : Entry),
    let r : Request := ⟨headerWord 3#4 h, lineWord a first count :: values⟩
    let w := s.watch p h.slot
    wholeRecord (r.header :: r.body) = true → s.LineTurn p → s.slotOf a = some k → s.entry k = some e →
    e.state ≠ .probing → s.startCheck p r = none →
    (w.state ≠ .armed → ∃ t c, exec (.cwrite p h a first count values) s = .next t
      ∧ t.port p = (s.port p).localDone c ∧ OnlyPort s t p ∧ c.status = .lost ∧ c.detail = w.cause.code
      ∧ c.attempts = 0 ∧ t.exchange = none ∧ t.line = s.line
      ∧ (∀ q j, t.watch q j = if q = p ∧ j = h.slot then Watch.emptySlot else s.watch q j))
    ∧ (∀ cover, w.state = .armed → w.cover = some cover →
      (cover.station ≠ a ∨ first.toNat < cover.first.toNat
        ∨ cover.first.toNat + cover.count - 1 < first.toNat + count.toNat - 1) →
      ∃ t c, exec (.cwrite p h a first count values) s = .next t
        ∧ t.port p = (s.port p).localDone c ∧ OnlyPort s t p ∧ c.status = .mismatch ∧ c.detail = 0
        ∧ c.attempts = 0 ∧ t.exchange = none ∧ t.line = s.line ∧ t.watches = s.watches)
    ∧ (∀ cover, w.state = .armed → w.cover = some cover → cover.station = a → cover.first.toNat ≤ first.toNat →
      first.toNat + count.toNat - 1 ≤ cover.first.toNat + cover.count - 1 →
      ∃ t x, exec (.cwrite p h a first count values) s = .next t ∧ OnlyPort s t p ∧ t.exchange = some x
        ∧ (∀ q j, t.watch q j = if q = p ∧ j = h.slot then { w with state := .committing, cause := .none }
            else s.watch q j)
        ∧ (∀ tog, e.toggle = some tog → t.port p = (s.port p).lineStarted r ∧ x.origin = .port p
          ∧ x.kind = .cwriteAsWrite ∧ x.watchSlot = some h.slot ∧ x.toggleSent = some tog
          ∧ x.frame = writeFrame a tog first r.values ∧ TurnUsed s t p)
        ∧ (e.toggle = none → (t.port p).queue = [r] ∧ (t.port p).headMark = .paired ∧ x.origin = .internal
          ∧ x.purpose = .resync ∧ x.kind = .ping ∧ t.arbiter.pairing = some p))

/-! ### Local requests -/

/-- ATTACH (R153, R29, R28, R81, R82), by what the table holds for the address; an address outside 1-200, or a wrong
length, completes BADREQ and changes nothing but its port (request rows: log 6). -/
def Obligations.AttachActsByTheTable : Prop :=
  (∀ (s : State) (p : Port) (h : Header) (a : Byte), h.length = 2#8 → s.LocalTurn p → stationAddress a = true →
    (s.exchange.isSome = true ∨ s.arbiter.serviceList = []) →
    let done := localRecord 8#4 h a
    (s.slotOf a = none → s.freeSlot = none → ∃ t, exec (.attach p h a []) s = .next t
      ∧ LocalDone s t p (done .tableFull 0 []) ∧ OnlyPorts s t)
    ∧ (∀ k, s.slotOf a = none → s.freeSlot = some k → ∃ t, exec (.attach p h a []) s = .next t
      ∧ t.port p = { s.port p with
          credits := (s.port p).credits - 1, headMark := .waiting
          queue := [⟨headerWord 8#4 h, [addressWord a]⟩], link := { (s.port p).link with sent := some 0 } }
      ∧ OnlyPort s t p
      ∧ t.table = s.table.set k (some {
          address := a, state := .probing, attached := PortSet.single p, toggle := none, ack := true, capable := false
          highest := 0, failures := 0, countdown := 0, gaps := PortSet.empty, changed := PortSet.empty })
      ∧ (s.exchange.isSome = true → t.exchange = s.exchange
        ∧ t.arbiter = { s.arbiter with serviceList := s.arbiter.serviceList ++ [⟨k, a, .probe⟩] })
      ∧ (s.exchange = none → t.arbiter = s.arbiter ∧ ∃ x, t.exchange = some x ∧ x.kind = .ping ∧ x.purpose = .probe
        ∧ x.origin = .internal ∧ x.slot = some k ∧ x.address = a ∧ x.frame = pingFrame a ⟨false, false⟩
        ∧ t.line = s.line.give x.frame))
    ∧ (∀ k e, s.slotOf a = some k → s.entry k = some e → e.attached.get p = true →
      ∃ t, exec (.attach p h a []) s = .next t ∧ LocalDone s t p (done .already e.state.code []) ∧ OnlyPorts s t)
    ∧ (∀ k e, s.slotOf a = some k → s.entry k = some e → e.attached.get p = false →
      ∃ t, exec (.attach p h a []) s = .next t
        ∧ t.table = s.table.set k (some { e with attached := e.attached.set p true })
        ∧ OnlyPorts { s with table := t.table } t ∧ OnlyPort s t p
        ∧ (e.state = .online ∨ e.state = .suspect → LocalDone s t p (done .ok e.state.code []))
        ∧ (e.state = .offline → LocalDone s t p (done .offline 0 []))
        ∧ (e.state = .probing → (t.port p).headMark = .waiting
          ∧ (t.port p).queue = [⟨headerWord 8#4 h, [addressWord a]⟩]
          ∧ (t.port p).completions = (s.port p).completions)))
    ∧ (∀ (s : State) (p : Port) (h : Header) (a : Byte) (more : List Word), s.LocalTurn p →
        Instr.wf (.attach p h a more) = true → (h.length ≠ 2#8 ∨ a = 0 ∨ 200 < a.toNat) →
        ∃ t, exec (.attach p h a more) s = .next t
          ∧ LocalDone s t p (localRecord 8#4 h a .badReq 0 []) ∧ OnlyPorts s t)

/-- DETACH (R155, R43, R44, R118): the port leaves the entry, its attached set, changed set and gap marks, its watches on
the station are emptied, and an entry left with no port is freed, with its probe or reprobe off the service list and an
exchange to it orphaned. A station the port is not attached to completes NOTATTACHED; an address outside 1-200, or a
wrong length, completes BADREQ; and neither changes anything but its port (request rows: log 6). -/
def Obligations.DetachLeavesTheEntry : Prop :=
  (∀ (s : State) (p : Port) (h : Header) (a : Byte), h.length = 2#8 → s.LocalTurn p → stationAddress a = true →
    let done := localRecord 9#4 h a
    (s.slotOf a = none → ∃ t, exec (.detach p h a []) s = .next t ∧ LocalDone s t p (done .notAttached 0 [])
      ∧ OnlyPorts s t)
    ∧ (∀ k e, s.slotOf a = some k → s.entry k = some e → e.attached.get p = false →
      ∃ t, exec (.detach p h a []) s = .next t ∧ LocalDone s t p (done .notAttached 0 []) ∧ OnlyPorts s t)
    ∧ (∀ k e, s.slotOf a = some k → s.entry k = some e → e.attached.get p = true →
      ∃ t, exec (.detach p h a []) s = .next t ∧ LocalDone s t p (done .ok e.state.code [])
        ∧ (∀ q j, t.watch q j = if q = p ∧ (s.watch p j).names e.address = true then Watch.emptySlot else s.watch q j)
        ∧ (e.attached ≠ PortSet.single p →
          t.table = s.table.set k (some { e with
            attached := PortSet.remove e.attached p, changed := PortSet.remove e.changed p
            gaps := PortSet.remove e.gaps p })
          ∧ t.exchange = s.exchange ∧ t.arbiter = s.arbiter)
        ∧ (e.attached = PortSet.single p →
          t.table = s.table.set k none
          ∧ t.arbiter = { s.arbiter with serviceList := s.arbiter.serviceList.filter fun i => i.slot != k }
          ∧ (∀ x, s.exchange = some x → t.exchange
              = some { x with orphan := x.orphan || decide (x.slot = some k) })
          ∧ (s.exchange = none → t.exchange = none))
        ∧ t.run = s.run ∧ t.loader = s.loader ∧ t.line = s.line ∧ t.routing = s.routing))
    ∧ (∀ (s : State) (p : Port) (h : Header) (a : Byte) (more : List Word), s.LocalTurn p →
        Instr.wf (.detach p h a more) = true → (h.length ≠ 2#8 ∨ a = 0 ∨ 200 < a.toNat) →
        ∃ t, exec (.detach p h a more) s = .next t
          ∧ LocalDone s t p (localRecord 9#4 h a .badReq 0 []) ∧ OnlyPorts s t)

/-- RELEASE (R156, R117): the named slot is emptied, and the detail is the cause it held; no notice is handed and no other
slot changes. A wrong length completes BADREQ and changes no slot. (Request rows: log 6; the station 0 of the record:
log 14.) -/
def Obligations.ReleaseEmptiesTheSlot : Prop :=
  ∀ (s : State) (p : Port) (h : Header) (more : List Word), s.LocalTurn p →
    (h.length = 2#8 → ∃ t, exec (.release p h []) s = .next t
      ∧ LocalDone s t p (localRecord 10#4 h 0 .ok (s.watch p h.slot).cause.code [])
      ∧ (∀ q j, t.watch q j = if q = p ∧ j = h.slot then Watch.emptySlot else s.watch q j)
      ∧ { t with ports := s.ports, watches := s.watches } = s)
    ∧ (h.length ≠ 2#8 → Instr.wf (.release p h more) = true → ∃ t, exec (.release p h more) s = .next t
      ∧ LocalDone s t p (localRecord 10#4 h 0 .badReq 0 []) ∧ OnlyPorts s t)

/-- FILTER MODE (R134). FILTER CLEAR_ALL (R137). The completion carries the mode and the number of keys after it (R133,
R161). (Request rows: log 6; the station 0 of the record: log 14.) -/
def Obligations.FilterModeAndClearAll : Prop :=
  (∀ (s : State) (p : Port) (h : Header) (mode : Byte) (m : FilterMode), h.length = 2#8 → s.LocalTurn p →
    (mode = 0x00#8 ∧ m = .none ∨ mode = 0x01#8 ∧ m = .exact ∨ mode = 0x02#8 ∧ m = .hashed ∨ mode = 0x03#8 ∧ m = .all) →
    ∃ t, exec (.filterMode p h mode []) s = .next t
      ∧ LocalDone s t p (filterDone h 0 .ok m (s.routing.get p).keys.length) ∧ OnlyRouting s t p
      ∧ t.routing.get p = { s.routing.get p with mode := m }
      ∧ (∀ station i, (t.routing.get p).accepts station i = (match m with
          | .none => false
          | .exact => (s.routing.get p).keys.contains (itemKey station i.point)
          | .hashed => (s.routing.get p).hash.getLsbD (hashIndex (itemKey station i.point))
          | .all => true))
      ∧ (t.port p).reports = (s.port p).reports)
    ∧ (∀ (s : State) (p : Port) (h : Header), h.length = 2#8 → s.LocalTurn p →
        ∃ t, exec (.filterClearAll p h []) s = .next t ∧ LocalDone s t p (filterDone h 0 .ok .none 0)
          ∧ OnlyRouting s t p ∧ t.routing.get p = ⟨.none, [], 0, (s.routing.get p).patterns⟩)

/-- FILTER LIST_ADD and LIST_REMOVE (R135), with a key in range. The completion carries the mode and the number of keys
after it (R133, R161). (Request rows: log 6; the key's station in the record: log 14.) -/
def Obligations.FilterListAddsAndRemoves : Prop :=
  ∀ (s : State) (p : Port) (h : Header) (station : Byte) (group : Half), h.length = 2#8 → s.LocalTurn p →
    stationAddress station = true → group.toNat ≤ 4095 →
    let f := s.routing.get p
    let key : Key := ⟨station, group⟩
    (key ∈ f.keys → ∃ t, exec (.filterListAdd p h station group []) s = .next t
      ∧ LocalDone s t p (filterDone h station .already f.mode f.keys.length) ∧ OnlyPorts s t)
    ∧ (key ∉ f.keys → f.keys.length = 16 → ∃ t, exec (.filterListAdd p h station group []) s = .next t
      ∧ LocalDone s t p (filterDone h station .tableFull f.mode 16) ∧ OnlyPorts s t)
    ∧ (key ∉ f.keys → f.keys.length < 16 → ∃ t, exec (.filterListAdd p h station group []) s = .next t
      ∧ LocalDone s t p (filterDone h station .ok f.mode (f.keys.length + 1)) ∧ OnlyRouting s t p
      ∧ t.routing.get p = { f with keys := f.keys ++ [key] })
    ∧ (key ∈ f.keys → ∃ t, exec (.filterListRemove p h station group []) s = .next t
      ∧ LocalDone s t p (filterDone h station .ok f.mode (f.keys.length - 1)) ∧ OnlyRouting s t p
      ∧ t.routing.get p = { f with keys := f.keys.erase key })
    ∧ (key ∉ f.keys → ∃ t, exec (.filterListRemove p h station group []) s = .next t
      ∧ LocalDone s t p (filterDone h station .already f.mode f.keys.length) ∧ OnlyPorts s t)

/-- FILTER HASH_SET and HASH_CLEAR (R136): the bit at the key's hash index (R125: the nine least significant bits of the
check over the station address, the high and the low byte of the group, which for an item is its point divided by 16) is
set or cleared, and with it every key of that index is accepted or not in mode HASHED; no other bit, and neither the
mode nor the list, changes. The completion carries the mode and the number of keys (R133, R161). (Request rows: log 6;
the key's station in the record: log 14.) -/
def Obligations.FilterHashSetsAndClears : Prop :=
  (∀ key : Key, hashIndex key
      = (crc16 [key.station, key.group.extractLsb' 8 8, key.group.extractLsb' 0 8]).toNat % 512)
    ∧ (∀ (station : Byte) (point : Half), (itemKey station point).station = station
      ∧ (itemKey station point).group.toNat = point.toNat / 16)
    ∧ ∀ (s : State) (p : Port) (h : Header) (station : Byte) (group : Half), h.length = 2#8 → s.LocalTurn p →
    stationAddress station = true → group.toNat ≤ 4095 →
    let f := s.routing.get p
    let n := hashIndex ⟨station, group⟩
    (∃ t, exec (.filterHashSet p h station group []) s = .next t
      ∧ LocalDone s t p (filterDone h station .ok f.mode f.keys.length) ∧ OnlyRouting s t p
      ∧ (t.routing.get p).mode = f.mode ∧ (t.routing.get p).keys = f.keys ∧ (t.routing.get p).patterns = f.patterns
      ∧ (∀ j, (t.routing.get p).hash.getLsbD j = if j = n then true else f.hash.getLsbD j)
      ∧ ∀ i other, f.mode = .hashed → hashIndex (itemKey other i.point) = n →
        (t.routing.get p).accepts other i = true)
    ∧ (∃ t, exec (.filterHashClear p h station group []) s = .next t
      ∧ LocalDone s t p (filterDone h station .ok f.mode f.keys.length) ∧ OnlyRouting s t p
      ∧ (t.routing.get p).mode = f.mode ∧ (t.routing.get p).keys = f.keys ∧ (t.routing.get p).patterns = f.patterns
      ∧ (∀ j, (t.routing.get p).hash.getLsbD j = if j = n then false else f.hash.getLsbD j)
      ∧ ∀ i other, f.mode = .hashed → hashIndex (itemKey other i.point) = n →
        (t.routing.get p).accepts other i = false)

/-- A FILTER that fails its checks (R133) completes BADREQ and leaves the filter as it was, and its completion carries the
mode and the number of keys as they stand, like that of every FILTER. (Request rows: log 6; the station of the record, a
key's or 0: log 14.) -/
def Obligations.BadFilterLeavesTheFilter : Prop :=
  ∀ (s : State) (p : Port) (h : Header) (i : Instr) (sub second : Byte) (low : Half) (more : List Word),
    s.LocalTurn p → i.record = some (p, filterRecord h sub second low more) → i.wf = true →
    (h.length ≠ 2#8 ∨ sub = 1#8 ∧ 3 < second.toNat
      ∨ (sub = 2#8 ∨ sub = 3#8 ∨ sub = 4#8 ∨ sub = 5#8) ∧ (stationAddress second = false ∨ 4095 < low.toNat)) →
    let f := s.routing.get p
    let station := if sub = 2#8 ∨ sub = 3#8 ∨ sub = 4#8 ∨ sub = 5#8 then second else 0
    ∃ t, exec i s = .next t ∧ LocalDone s t p (filterDone h station .badReq f.mode f.keys.length) ∧ OnlyPorts s t

/-- WAKESET (R139): all five fields of the named pattern take the values carried; a number above 3, an enabled pattern
with an address outside 1-200, or a wrong length completes BADREQ and changes no pattern. (Request rows: log 6; the
pattern's station in the record: log 14.) -/
def Obligations.WakesetSetsThePattern : Prop :=
  ∀ (s : State) (p : Port) (h : Header) (n : BitVec 4) (enabled : Bool) (station : Byte) (point bits compare : Half)
    (more : List Word), s.LocalTurn p → Instr.wf (.wakeset p h n enabled station point bits compare more) = true →
    ((h.length ≠ 3#8 ∨ 3 < n.toNat ∨ (enabled = true ∧ stationAddress station = false)) →
      ∃ t, exec (.wakeset p h n enabled station point bits compare more) s = .next t
        ∧ LocalDone s t p (localRecord 12#4 h station .badReq 0 []) ∧ OnlyPorts s t)
    ∧ (∀ j : Fin 4, h.length = 3#8 → n.toNat = j.val → (enabled = false ∨ stationAddress station = true) →
      ∃ t, exec (.wakeset p h n enabled station point bits compare more) s = .next t
        ∧ LocalDone s t p (localRecord 12#4 h station .ok 0 []) ∧ OnlyRouting s t p
        ∧ t.routing.get p = { s.routing.get p with
            patterns := (s.routing.get p).patterns.set j ⟨enabled, station, point, bits, compare⟩ })

/-- QUERY STATION, QUERY WATCHES and QUERY LINE (R157, Section 10.4): they complete OK with the words of their results
as the state stands, or NOTATTACHED or BADREQ, and change nothing but their port. QUERY CHANGES (R158): the addresses
of the entries whose changed set holds the port, in slot order, four to a word; and the port leaves the changed set of
each entry listed. The CHANGED notice stays as it is. A QUERY of a wrong length completes BADREQ and changes nothing but
its port. (Request rows: log 6.) -/
def Obligations.QueriesReadTheState : Prop :=
  (∀ (s : State) (p : Port) (h : Header) (a : Byte), h.length = 2#8 → s.LocalTurn p →
    (stationAddress a = false → ∃ t, exec (.queryStation p h a []) s = .next t
      ∧ LocalDone s t p (localRecord 13#4 h a .badReq 0 []) ∧ OnlyPorts s t)
    ∧ (stationAddress a = true → s.entryOf a = none → ∃ t, exec (.queryStation p h a []) s = .next t
      ∧ LocalDone s t p (localRecord 13#4 h a .notAttached 0 []) ∧ OnlyPorts s t)
    ∧ (∀ e, stationAddress a = true → s.entryOf a = some e → ∃ t, exec (.queryStation p h a []) s = .next t
      ∧ LocalDone s t p (localRecord 13#4 h a .ok 0 (stationWords e)) ∧ OnlyPorts s t)
    ∧ (∃ t, exec (.queryWatches p h []) s = .next t
      ∧ LocalDone s t p (localRecord 13#4 h 0 .ok 0 (watchWords (s.watch p 0) ++ watchWords (s.watch p 1)
          ++ watchWords (s.watch p 2) ++ watchWords (s.watch p 3))) ∧ OnlyPorts s t)
    ∧ (∃ t, exec (.queryLine p h []) s = .next t
      ∧ LocalDone s t p (localRecord 13#4 h 0 .ok 0 (lineWords s.loader.params s.arbiter.overruns s.loader.result))
      ∧ OnlyPorts s t))
    ∧ (∀ (s : State) (p : Port) (h : Header), h.length = 2#8 → s.LocalTurn p →
        ∃ t, exec (.queryChanges p h []) s = .next t
          ∧ LocalDone s t p (localRecord 13#4 h 0 .ok 0 (packBytes (s.table.filterMap fun o =>
              match o with
              | some e => if e.changed.get p then some e.address else none
              | none => none)))
          ∧ (∀ k, t.entry k = (s.entry k).map fun e => { e with changed := PortSet.remove e.changed p })
          ∧ { t with ports := s.ports, table := s.table } = s)
    ∧ (∀ (s : State) (p : Port) (h : Header) (a : Byte) (more : List Word), s.LocalTurn p → h.length ≠ 2#8 →
        (∀ i ∈ [Instr.queryChanges p h more, Instr.queryWatches p h more, Instr.queryLine p h more], i.wf = true →
          ∃ t, exec i s = .next t ∧ LocalDone s t p (localRecord 13#4 h 0 .badReq 0 []) ∧ OnlyPorts s t)
        ∧ (Instr.wf (.queryStation p h a more) = true → ∃ t, exec (.queryStation p h a more) s = .next t
          ∧ LocalDone s t p (localRecord 13#4 h a .badReq 0 []) ∧ OnlyPorts s t))

/-- MARK (R159) completes OK, or BADREQ with a wrong length; a record of an unassigned kind (R160) completes BADREQ with
its kind as the header gave it. Neither changes anything but its port (request rows: log 6). -/
def Obligations.MarkAndUnassignedKindComplete : Prop :=
  ∀ (s : State) (p : Port) (h : Header) (more words : List Word) (kind : BitVec 4), s.LocalTurn p →
    (h.length = 2#8 → ∃ t, exec (.mark p h []) s = .next t ∧ LocalDone s t p (localRecord 14#4 h 0 .ok 0 [])
      ∧ OnlyPorts s t)
    ∧ (h.length ≠ 2#8 → Instr.wf (.mark p h more) = true → ∃ t, exec (.mark p h more) s = .next t
      ∧ LocalDone s t p (localRecord 14#4 h 0 .badReq 0 []) ∧ OnlyPorts s t)
    ∧ (Instr.wf (.unassignedKind p kind h words) = true → ∃ t, exec (.unassignedKind p kind h words) s = .next t
      ∧ LocalDone s t p (localRecord kind h 0 .badReq 0 []) ∧ OnlyPorts s t)

/-! ### The field line -/

/-- TRANSMIT_START (R3, R4): a WAITING transmitter whose line is not held low drives its frame: LINEDE is asserted,
the receiver is closed, the idle count is 0, and nothing else changes. While the line is held low it stays WAITING.
Where no frame waits nothing happens (log 9); the idle time still wanting passes with the command (log 4). The bits of
a frame (R1, R4): n characters drive 11 n bits, each a low start bit, eight data bits least significant first, a
parity bit that makes the ones even, and a high stop bit; and a frame of n payload bytes has n + 7 characters. The frames
of the part (R11-R17, R192): the marker, then destination, source, control byte, length and payload, then their check,
high byte first; PING (1) and POLL (4) with V, K and no payload; READ (2) with first point and count; WRITE (3), addressed
or broadcast, with T, first point, count and values, each of two bytes, high byte first; every other bit of the control
byte 0; and the source 240. -/
def Obligations.TransmitStartDrivesTheFrame : Prop :=
  (∀ s : State,
    (∀ f, s.line.tx = .waiting f → s.line.low = false → s.line.idle ≤ 44 →
      (∀ x, s.exchange = some x → x.phase = .sending ∧ x.replyTimer = none ∧ x.holdoffTimer = none) →
      ∃ t, exec .transmitStart s = .next t ∧ t.line = ⟨.driving (frameBits f), .closed, 0, false⟩
        ∧ t.line.driverEnable = true ∧ { t with line := s.line } = s)
    ∧ (∀ f, s.line.tx = .waiting f → s.line.low = true → ∃ t, exec .transmitStart s = .next t
      ∧ t.line.tx = .waiting f ∧ t.line.idle = 0)
    ∧ ((∀ f, s.line.tx ≠ .waiting f) → exec .transmitStart s = .next s))
    ∧ ((∀ frame : List Byte, (frameBits frame).length = 11 * frame.length)
        ∧ (∀ (b : Byte) (rest : List Byte), ∃ parity, frameBits (b :: rest)
            = [false, b.getLsbD 0, b.getLsbD 1, b.getLsbD 2, b.getLsbD 3, b.getLsbD 4, b.getLsbD 5, b.getLsbD 6,
                b.getLsbD 7, parity, true] ++ frameBits rest
          ∧ ∀ stop, characterFault b parity stop = !stop)
        ∧ ∀ (destination source control : Byte) (payload : List Byte),
          (frameOf destination source control payload).length = payload.length + 7)
    ∧ (∀ (destination source control : Byte) (payload : List Byte),
        let covered := destination :: source :: control :: BitVec.ofNat 8 payload.length :: payload
        frameOf destination source control payload
          = 0xC5#8 :: covered ++ [(crc16 covered).extractLsb' 8 8, (crc16 covered).extractLsb' 0 8])
    ∧ (∀ (a : Byte) (k v t : Bool) (first : Half) (count : Nat) (values : List Half),
        let control (v k t : Bool) (kind : BitVec 4) : Byte :=
          BitVec.ofBool v ++ BitVec.ofBool k ++ 0#1 ++ BitVec.ofBool t ++ kind
        let bytes (h : Half) : List Byte := [h.extractLsb' 8 8, h.extractLsb' 0 8]
        pingFrame a ⟨k, v⟩ = frameOf a 240#8 (control v k false 1#4) []
          ∧ pollFrame a ⟨k, v⟩ = frameOf a 240#8 (control v k false 4#4) []
          ∧ readFrame a first count
            = frameOf a 240#8 (control false false false 2#4) (bytes first ++ [BitVec.ofNat 8 count])
          ∧ writeFrame a t first values = frameOf a 240#8 (control false false t 3#4)
            (bytes first ++ [BitVec.ofNat 8 values.length] ++ values.flatMap bytes))

/-- SEND_COMPLETE (R4, R54, R68): the line is released with the receiver HUNTING and the idle count 0; the exchange goes
to AWAITING with the reply timer at the reply timeout, or, a broadcast with a hold-off, to HOLDOFF with the hold-off
timer. Nothing else changes. A broadcast with a hold-off of 0 ends OK at once, with attempts used 1: it breaks every
ARMED watch whose range meets the written range with cause BROADCAST, and its port has the record, or its credit when it
was quiet; shown where nothing waits for the line. The bits still to be driven pass with the command (DESIGN CHOICE, log
4). -/
def Obligations.SendCompleteAwaitsTheReply : Prop :=
  ∀ (s : State) (x : Exchange) (bits : List Bool),
    s.line.tx = .driving bits → s.exchange = some x → x.phase = .sending →
    (x.kind ≠ .broadcast → exec .sendComplete s = .next { s with
        line := ⟨.released, .hunting, 0, s.line.low⟩
        exchange := some { x with phase := .awaiting, replyTimer := some s.loader.params.replyTimeout } })
    ∧ (x.kind = .broadcast → s.loader.params.holdoff ≠ 0 → exec .sendComplete s = .next { s with
        line := ⟨.released, .hunting, 0, s.line.low⟩
        exchange := some { x with phase := .holdoff, holdoffTimer := some s.loader.params.holdoff } })
    ∧ (∀ p r, x.kind = .broadcast → s.loader.params.holdoff = 0 → x.origin = .port p → x.purpose = .request →
      x.slot = none → x.orphan = false → x.discard = false → x.attempt = 1 → x.watchSlot = none →
      (s.port p).inFlight = some r → s.NothingWaits →
      ∃ t, exec .sendComplete s = .next t ∧ t.line = ⟨.released, .hunting, 0, s.line.low⟩ ∧ t.exchange = none
        ∧ t.table = s.table ∧ (t.port p).inFlight = none ∧ t.routing = s.routing ∧ t.arbiter = s.arbiter
        ∧ (∀ q j, t.watch q j = (s.watch q j).breakBy (hitsBroadcast x.first x.count) .broadcast)
        ∧ (r.isWrite = true → r.quiet = true → (t.port p).completions = (s.port p).completions
          ∧ (t.port p).credits = (s.port p).credits + 1)
        ∧ (r.quiet = false → ∃ c, (t.port p).completions = (s.port p).completions ++ [c] ∧ c.status = .ok
          ∧ c.attempts = 1 ∧ c.tag = r.tag ∧ (t.port p).credits = (s.port p).credits))

/-- CHARACTER_RECEIVED (R5, R6, R55): a marker without fault in HUNTING begins a frame, and FRAME BEGUN moves an
exchange in AWAITING to RECEIVING with its timer stopped; a character without fault in COLLECTING extends the frame, and
completes it when it has its length plus 7 characters; each leaves the idle count at 0. A closed receiver takes none; of
a stop bit taken low the line is left low (DESIGN CHOICE, log 22). -/
def Obligations.CharactersAssembleAFrame : Prop :=
  ∀ (s : State) (data : Byte) (parity : Bool),
    (s.line.rx = .closed → ∀ stop, exec (.characterReceived data parity stop) s
      = .next { s with line := { s.line with low := s.line.low || !stop } })
    ∧ (s.line.rx = .hunting → s.line.low = false → data = 0xC5#8 → characterFault data parity true = false →
      ∃ t, exec (.characterReceived data parity true) s = .next t
        ∧ t.line = { s.line with rx := .collecting [0xC5#8], idle := 0, low := false }
        ∧ (∀ x, s.exchange = some x → x.phase = .awaiting → x.holdoffTimer = none →
          t.exchange = some { x with phase := .receiving, replyTimer := none })
        ∧ (s.exchange = none → t.exchange = none)
        ∧ { t with line := s.line, exchange := s.exchange } = s)
    ∧ (∀ chars, s.line.rx = .collecting chars → s.line.low = false → characterFault data parity true = false →
      ¬ (chars.length = 4 ∧ 67 < data.toNat) →
      ∃ t, exec (.characterReceived data parity true) s = .next t
        ∧ t.line = { s.line with
            idle := 0, low := false
            rx := if 5 ≤ chars.length + 1 ∧ chars.length + 1 = ((chars ++ [data]).getD 4 0).toNat + 7 then
                .held (chars ++ [data])
              else .collecting (chars ++ [data]) }
        ∧ (∀ x, s.exchange = some x → x.holdoffTimer = none → t.exchange = some x)
        ∧ { t with line := s.line, exchange := s.exchange } = s)

/-- The causes of a garbled frame that show on a character (R7): a fault, a wrong marker, a length above 67, and a start
bit in HELD each send the receiver to DISCARDING, and an attempt in RECEIVING (or, at a first character, in AWAITING)
that is not the last goes to RETRY_GAP with last failure GARBLED (R56, R58, R59). In DISCARDING characters are passed
over, whatever the exchange; the character takes 11 bit times of a running hold-off (DESIGN CHOICE, log 16). A stop bit
taken low leaves the line low (R5). Nothing else changes. The cause that each character shows to each state of the
receiver, which the report passes on (R7): where two fall on one character the order is the model's (DESIGN CHOICE, log
24). LINE_RETURNS_HIGH (R2, R5): the line is no longer low and the idle count starts from 0, whenever the line went low
(DESIGN CHOICE, log 22). -/
def Obligations.GarbledCharactersFailTheAttempt : Prop :=
  (∀ (s : State) (x : Exchange) (data : Byte) (parity stop : Bool), s.line.low = false →
    (s.exchange = some x → x.attempt < 1 + s.loader.params.retryLimit → x.holdoffTimer = none →
      (s.line.rx = .hunting ∧ x.phase = .awaiting ∧ (characterFault data parity stop = true ∨ data ≠ 0xC5#8)
        ∨ x.phase = .receiving ∧ ((∃ chars, s.line.rx = .collecting chars
            ∧ (characterFault data parity stop = true ∨ (chars.length = 4 ∧ 67 < data.toNat)))
          ∨ ∃ chars, s.line.rx = .held chars)) →
      exec (.characterReceived data parity stop) s = .next { s with
        line := { s.line with rx := .discarding, idle := 0, low := !stop }
        exchange := some { x with
          phase := .retryGap, lastFailure := some .garbled, replyTimer := none, buffer := [], nextIndex := 0 } })
    ∧ (s.line.rx = .discarding →
      exec (.characterReceived data parity stop) s = .next { s with
        line := { s.line with idle := 0, low := !stop }
        exchange := s.exchange.map fun x => { x with holdoffTimer := x.holdoffTimer.map (· - 11) } }))
    ∧ (∀ (data : Byte) (fault : Bool),
        Receiver.causeOf .hunting data fault
            = (if fault = true then some .characterFault else if data ≠ 0xC5#8 then some .marker else none)
          ∧ (∀ chars, Receiver.causeOf (.collecting chars) data fault = (if fault = true then some .characterFault
            else if chars.length = 4 ∧ 67 < data.toNat then some .lengthOver67 else none))
          ∧ (∀ chars, Receiver.causeOf (.held chars) data fault = some .longFrame)
          ∧ Receiver.causeOf .discarding data fault = none ∧ Receiver.causeOf .closed data fault = none)
    ∧ (∀ (s : State) (data : Byte) (fault : Bool) (cause : GarbleCause),
        s.line.rx.causeOf data fault = some cause →
        let begun : State := if s.line.rx = .hunting then s.frameBegun else s
        s.takeCharacter data fault
          = ({ begun with line := { s.line with rx := .discarding } }).frameEnded (.garbled cause))
    ∧ ∀ s : State, exec .lineReturnsHigh s = .next { s with line := { s.line with low := false, idle := 0 } }

/-- FRAME_CONFIRMATION (R6, R7): the idle count, standing below 23 on a high line, comes to 23; DISCARDING ends in HUNTING
with no report, a short frame is garbled, and a frame in HELD is evaluated, its check first (R7), then its destination,
kind and shape (R8; the shapes: StationFramesEvaluateBack). With no frame being received nothing happens. -/
def Obligations.FrameConfirmationEvaluatesTheFrame : Prop :=
  ∀ s : State,
    (s.line.rx.midFrame = false → exec .frameConfirmation s = .next s)
    ∧ (s.line.low = false → s.line.idle ≤ 23 → (∀ x, s.exchange = some x → x.replyTimer = none ∧ x.holdoffTimer = none) →
      let heard : State := { s with line := { s.line with rx := .hunting, idle := 23 } }
      (s.line.rx = .discarding → exec .frameConfirmation s = .next heard)
      ∧ (∀ chars, s.line.rx = .collecting chars → exec .frameConfirmation s = .next (heard.frameEnded (.garbled .shortFrame)))
      ∧ ∀ chars, s.line.rx = .held chars → ∃ report, exec .frameConfirmation s = .next (heard.frameEnded report)
        ∧ (crc16 (coveredBytes chars) ≠ checkOf chars → report = .garbled .check)
        ∧ (crc16 (coveredBytes chars) = checkOf chars →
          (chars.getD 1 0 ≠ 240#8 → report = .ignored)
          ∧ (chars.getD 1 0 = 240#8 →
            (replyOf (chars.getD 3 0) ((coveredBytes chars).drop 4) = none → report = .malformed (chars.getD 2 0))
            ∧ ∀ reply, replyOf (chars.getD 3 0) ((coveredBytes chars).drop 4) = some reply →
              report = .valid (chars.getD 2 0) reply)))

/-- What a report does in RECEIVING and outside it (R56, R57, R58, R61): outside RECEIVING it is discarded; FRAME IGNORED
returns the record to AWAITING with the timer at the reply timeout; a garbled frame of any cause, and a malformed one or
one from another source, fail an attempt that is not the last as GARBLED and as PROTOCOL. A valid frame from the station
(R57) makes its heard claim, unless the orphan flag is set, and then a kind that the exchange does not allow fails the
attempt as PROTOCOL; PONG and ACCEPT end it OK (R62, R65); NOTHING ends a POLL OK with no report, and REPORT ends it OK
with a new report when its T is not the K sent, and with none when it is (R67). The end of a POLL gives the entry's ack
bit the T of a new report and leaves it at a duplicate and a NOTHING (R40, R72); beside it only the gap marks may
change. A last attempt that fails ends the exchange: NORESPONSE after TIMEOUT, BADREPLY after GARBLED and PROTOCOL,
BUSY after BUSY (R59). -/
def Obligations.FrameReportsDecideTheAttempt : Prop :=
  (∀ (s : State) (x : Exchange) (report : FrameReport), s.exchange = some x →
    (x.phase ≠ .receiving → s.frameEnded report = s)
    ∧ (x.phase = .receiving →
      s.frameEnded .ignored = { s with
        exchange := some { x with phase := .awaiting, replyTimer := some s.loader.params.replyTimeout } }
      ∧ (x.attempt < 1 + s.loader.params.retryLimit → s.line.idle ≠ 44 → ∀ source reply cause,
        let failed (f : Failure) : State := { s with exchange := some { x with
          phase := .retryGap, lastFailure := some f, replyTimer := none, buffer := [], nextIndex := 0 } }
        s.frameEnded (.garbled cause) = failed .garbled ∧ s.frameEnded (.malformed source) = failed .protocol
        ∧ (source ≠ x.address → s.frameEnded (.valid source reply) = failed .protocol))
      ∧ (x.attempt = 1 + s.loader.params.retryLimit → ∀ source reply cause,
        let last (f : Failure) : State := s.endExchange { x with
          lastFailure := some f, replyTimer := none, buffer := [], nextIndex := 0 } { status := .badReply }
        s.frameEnded (.garbled cause) = last .garbled ∧ s.frameEnded (.malformed source) = last .protocol
        ∧ (source ≠ x.address → s.frameEnded (.valid source reply) = last .protocol))))
    ∧ (∀ (s : State) (x : Exchange) (f : Failure), x.attempt = 1 + s.loader.params.retryLimit →
        s.failAttempt x f = s.endExchange { x with
          lastFailure := some f, replyTimer := none, buffer := [], nextIndex := 0 } { status := match f with
            | .timeout => .noResponse
            | .garbled => .badReply
            | .protocol => .badReply
            | .busy => .busy })
    ∧ (∀ (s : State) (x : Exchange) (reply : Reply), s.exchange = some x → x.phase = .receiving →
        let heard : State := if x.orphan then s else (x.slot.map s.heard).getD s
        let allowed : Bool := match x.kind, reply with
          | .broadcast, _ => false
          | _, .refuse _ => true
          | .ping, .pong _ _ => true
          | .read, .answer _ _ _ => true
          | .write, .accept => true
          | .cwriteAsWrite, .accept => true
          | .poll, .report _ _ _ => true
          | .poll, .nothing => true
          | _, _ => false
        (allowed = false → x.attempt < 1 + s.loader.params.retryLimit → s.line.idle ≠ 44 →
          s.frameEnded (.valid x.address reply) = { heard with exchange := some { x with
            phase := .retryGap, lastFailure := some .protocol, replyTimer := none, buffer := [], nextIndex := 0 } })
        ∧ (allowed = false → x.attempt = 1 + s.loader.params.retryLimit →
          s.frameEnded (.valid x.address reply) = heard.endExchange { x with
            lastFailure := some .protocol, replyTimer := none, buffer := [], nextIndex := 0 } { status := .badReply })
        ∧ (∀ reason, x.kind ≠ .broadcast → reply = .refuse reason →
          s.frameEnded (.valid x.address reply) = heard.takeRefuse x reason)
        ∧ (∀ index values more, x.kind = .read → reply = .answer index values more →
          s.frameEnded (.valid x.address reply) = heard.takeAnswer x index values more)
        ∧ (∀ capable highest, x.kind = .ping → reply = .pong capable highest →
          s.frameEnded (.valid x.address reply)
            = heard.endExchange x { status := .ok, pong := some (capable, highest) })
        ∧ (x.kind = .write ∨ x.kind = .cwriteAsWrite → reply = .accept →
          s.frameEnded (.valid x.address reply) = heard.endExchange x { status := .ok })
        ∧ (x.kind = .poll → reply = .nothing →
          s.frameEnded (.valid x.address reply) = heard.endExchange x { status := .ok })
        ∧ ∀ t more items ack, x.kind = .poll → reply = .report t more items → x.ackSent = some ack →
          (t ≠ ack.k → s.frameEnded (.valid x.address reply)
            = heard.endExchange x { status := .ok, more := more, report := some (t, items) })
          ∧ (t = ack.k → s.frameEnded (.valid x.address reply)
            = heard.endExchange x { status := .ok, more := more, report := none }))
    ∧ (∀ (s : State) (x : Exchange) (k : Nat) (e : Entry) (t more : Bool) (items : List Item),
        x.kind = .poll → x.purpose = .poll → x.origin = .internal → x.slot = some k → x.orphan = false →
        s.entry k = some e → e.state = .online ∨ e.state = .suspect →
        (∃ gaps, (s.handEnd x { status := .ok, more := more, report := some (t, items) }).entry k
          = some { e with ack := t, gaps := gaps })
        ∧ (s.handEnd x { status := .ok, more := more }).entry k = some e)

/-- REPLY_TIMER_EXPIRY (R55, R58, R59, R60): in AWAITING the attempt fails with TIMEOUT; while attempts remain it is
sent again at once on a line that has stood idle for 44 bit times, and otherwise waits in RETRY_GAP. Outside AWAITING
an expiry has no effect. RETRY_GAP_END (R60): on a line that is not held low the attempt number rises by 1 and the
same frame is sent again; nothing else changes. Outside RETRY_GAP, and where no exchange is in the record, nothing
happens (DESIGN CHOICE, log 9). -/
def Obligations.RetriesSendTheFrameAgain : Prop :=
  (∀ s : State,
    ((∀ x, s.exchange = some x → x.phase ≠ .awaiting) → exec .replyTimerExpiry s = .next s)
    ∧ ∀ x n, s.exchange = some x → x.phase = .awaiting → x.replyTimer = some n → x.holdoffTimer = none →
      s.line.rx = .hunting → s.line.low = false → x.attempt < 1 + s.loader.params.retryLimit →
      (44 ≤ s.line.idle + n → exec .replyTimerExpiry s = .next { s with
        line := { s.line with tx := .driving (frameBits x.frame), rx := .closed, idle := 0 }
        exchange := some { x with
          attempt := x.attempt + 1, phase := .sending, lastFailure := some .timeout, replyTimer := none, buffer := []
          nextIndex := 0 } })
      ∧ (s.line.idle + n < 44 → exec .replyTimerExpiry s = .next { s with
        line := { s.line with idle := s.line.idle + n }
        exchange := some { x with
          phase := .retryGap, lastFailure := some .timeout, replyTimer := none, buffer := [], nextIndex := 0 } }))
    ∧ (∀ s : State,
        ((∀ x, s.exchange = some x → x.phase ≠ .retryGap) → exec .retryGapEnd s = .next s)
        ∧ ∀ x, s.exchange = some x → x.phase = .retryGap → x.replyTimer = none → x.holdoffTimer = none →
          s.line.low = false → s.line.idle ≤ 44 →
          exec .retryGapEnd s = .next { s with
            line := { s.line with tx := .driving (frameBits x.frame), rx := .closed, idle := 0 }
            exchange := some { x with attempt := x.attempt + 1, phase := .sending } })

/-- The last attempt (R59, R73, R32, R33): when the reply timer expires on it the port's request completes NORESPONSE
with the attempts used, and the entry's failure count has risen by 1, taking it to SUSPECT, or to OFFLINE at the
threshold. -/
def Obligations.LastTimeoutCompletesNoResponse : Prop :=
  ∀ (s : State) (x : Exchange) (p : Port) (r : Request) (k n : Nat) (e : Entry),
    s.exchange = some x → x.phase = .awaiting → x.replyTimer = some n → x.holdoffTimer = none → x.origin = .port p →
    x.purpose = .request → x.kind = .read → x.slot = some k → x.orphan = false → x.discard = false →
    x.attempt = 1 + s.loader.params.retryLimit → (s.port p).inFlight = some r → s.entry k = some e →
    e.state = .online ∨ e.state = .suspect → s.line.rx = .hunting → s.NothingWaits →
    ∃ t c f, exec .replyTimerExpiry s = .next t ∧ t.exchange = none
      ∧ (t.port p).completions = (s.port p).completions ++ [c] ∧ (t.port p).inFlight = none
      ∧ (t.port p).credits = (s.port p).credits ∧ c.status = .noResponse ∧ c.attempts = x.attempt ∧ c.tag = r.tag
      ∧ c.body = []
      ∧ t.entry k = some f ∧ f.failures = e.failures + 1 ∧ f.address = e.address ∧ f.attached = e.attached
      ∧ (e.failures + 1 = s.loader.params.failureThreshold → f.state = .offline ∧ f.toggle = none
        ∧ f.countdown = s.loader.params.reprobeInterval)
      ∧ (e.failures + 1 ≠ s.loader.params.failureThreshold → f.state = .suspect ∧ f.toggle = e.toggle
        ∧ f.countdown = e.countdown)

/-- HOLDOFF_EXPIRY (R68, R107, R163): a broadcast ends OK with attempts used 1 and breaks every ARMED watch of every port
whose range meets the written range, with cause BROADCAST; a quiet one returns its credit in place of a record. No entry
changes. Outside HOLDOFF nothing happens (DESIGN CHOICE, log 9). -/
def Obligations.HoldoffExpiryEndsTheBroadcast : Prop :=
  ∀ s : State,
    ((∀ x, s.exchange = some x → x.phase ≠ .holdoff) → exec .holdoffExpiry s = .next s)
    ∧ ∀ x n p r, s.exchange = some x → x.phase = .holdoff → x.holdoffTimer = some n → x.origin = .port p →
      x.purpose = .request → x.kind = .broadcast → x.slot = none → x.orphan = false → x.discard = false →
      x.attempt = 1 → x.watchSlot = none → (s.port p).inFlight = some r → s.line.rx = .hunting → s.NothingWaits →
      ∃ t, exec .holdoffExpiry s = .next t ∧ t.exchange = none ∧ t.table = s.table ∧ (t.port p).inFlight = none
        ∧ (∀ q j, t.watch q j = (s.watch q j).breakBy (hitsBroadcast x.first x.count) .broadcast)
        ∧ (r.isWrite = true → r.quiet = true → (t.port p).completions = (s.port p).completions
          ∧ (t.port p).credits = (s.port p).credits + 1)
        ∧ (r.quiet = false → ∃ c, (t.port p).completions = (s.port p).completions ++ [c] ∧ c.status = .ok
          ∧ c.attempts = 1 ∧ c.tag = r.tag ∧ (t.port p).credits = (s.port p).credits)

/-! ### Replies and the end of an exchange -/

/-- The checks of an ANSWER fragment (R63), in order, on an attempt that is not the last: a wrong index, too many
points, too few at the last fragment, more announced when the count is reached, or a fifth announced fails the attempt
as PROTOCOL with the buffer emptied; a good fragment with M = 1 is appended, and the record waits for the next. A
REFUSE (R66): reason BUSY fails an attempt that is not the last; every other reason, an unassigned byte being FAULT
(R20), ends the exchange REFUSED with that reason. On a last attempt a bad fragment ends the exchange BADREPLY and a BUSY
ends it BUSY (R59). -/
def Obligations.AnswersAndRefusesDecideTheAttempt : Prop :=
  (∀ (s : State) (x : Exchange) (index : Nat) (values : List Half) (more : Bool),
    s.line.idle ≠ 44 → x.attempt < 1 + s.loader.params.retryLimit →
    let total := x.buffer.length + values.length
    let bad := index ≠ x.nextIndex ∨ x.count < total ∨ (more = false ∧ total < x.count)
      ∨ (more = true ∧ total = x.count) ∨ (more = true ∧ index = 3)
    (bad → s.takeAnswer x index values more = { s with exchange := some { x with
        phase := .retryGap, lastFailure := some .protocol, replyTimer := none, buffer := [], nextIndex := 0 } })
    ∧ (¬ bad → more = true → s.takeAnswer x index values more = { s with exchange := some { x with
        phase := .awaiting, replyTimer := some s.loader.params.replyTimeout, buffer := x.buffer ++ values
        nextIndex := index + 1 } })
    ∧ (¬ bad → more = false → s.takeAnswer x index values more
        = s.endExchange x { status := .ok, values := x.buffer ++ values } ∧ total = x.count))
    ∧ (∀ (s : State) (x : Exchange) (b : Byte),
        (b = 3#8 → s.line.idle ≠ 44 → x.attempt < 1 + s.loader.params.retryLimit →
          s.takeRefuse x (refuseReason b) = { s with exchange := some { x with
            phase := .retryGap, lastFailure := some .busy, replyTimer := none, buffer := [], nextIndex := 0 } })
        ∧ (b ≠ 3#8 → s.takeRefuse x (refuseReason b) = s.endExchange x
            { status := .refused, detail := if b = 1#8 then 1#4 else if b = 2#8 then 2#4 else 4#4 }))
    ∧ (∀ (s : State) (x : Exchange) (index : Nat) (values : List Half) (more : Bool),
        x.attempt = 1 + s.loader.params.retryLimit →
        let total := x.buffer.length + values.length
        let last (f : Failure) (status : Status) : State := s.endExchange { x with
          lastFailure := some f, replyTimer := none, buffer := [], nextIndex := 0 } { status := status }
        (index ≠ x.nextIndex ∨ x.count < total ∨ (more = false ∧ total < x.count) ∨ (more = true ∧ total = x.count)
            ∨ (more = true ∧ index = 3) → s.takeAnswer x index values more = last .protocol .badReply)
          ∧ s.takeRefuse x (refuseReason 3) = last .busy .busy)

/-- The end of a port's exchange at every block (R70-R76). A WRITE that ended OK (R38, R71, R105, R73): the entry's
toggle is the other of 0 and 1 from the one sent, every ARMED watch on the station that meets the written range is
BROKEN with cause WRITE, its own port is handed BROKEN with the others, and the port has its record, or its credit when
the WRITE was quiet. A CWRITE that ended OK does the same but for its own slot, which is EMPTY and not broken (R106), as
at its every end (R115). A watched READ that ended OK arms its slot and its record carries the values (R102). An
exchange other than a probe or reprobe that ended NORESPONSE or BADREPLY counts a failure (R32, R33): the entry goes to
SUSPECT, or at the threshold to OFFLINE, with the toggle UNKNOWN, the countdown loaded, and every ARMED watch on the
station BROKEN with cause OFFLINE (R109), each port that has one with notify set being handed BROKEN; after a WRITE
frame the toggle is UNKNOWN (R38); and when the state has changed the attached ports join the changed set and have
CHANGED set (R37). REFUSED and BUSY leave the entry as it is. The record of an end carries its status, its detail and
the attempts used (R73, R161). With the discard flag the port has its credit in place of a record, CLOSING becomes
CLOSED, and its own slot is left alone (R71, R73, R74, R171). With the orphan flag the table, the watches and the
routing stay as they are (R75), and the port has its record, or with both flags its credit (R76). -/
def Obligations.AcceptedWriteFlipsTheToggleAndBreaksWatches : Prop :=
  (∀ (s : State) (x : Exchange) (p : Port) (r : Request) (k : Nat) (e : Entry) (tog : Bool),
    x.origin = .port p → x.kind = .write → x.purpose = .request → x.slot = some k → x.orphan = false →
    x.discard = false → x.toggleSent = some tog → x.watchSlot = none → (s.port p).inFlight = some r →
    r.isWrite = true → s.entry k = some e → e.state = .online ∨ e.state = .suspect →
    let t := s.handEnd x { status := .ok }
    t.exchange = none ∧ t.entry k = some { e with toggle := some (!tog) } ∧ (∀ j, j ≠ k → t.entry j = s.entry j)
      ∧ (∀ q j, t.watch q j = (s.watch q j).breakBy (hitsWrite x.address x.first x.count) .write)
      ∧ (∀ q, (t.port q).sticky.broken = ((s.port q).sticky.broken || s.anyWatch q fun _ w =>
          w.notify && w.hitBy (hitsWrite x.address x.first x.count)))
      ∧ (t.port p).inFlight = none
      ∧ (r.quiet = true → (t.port p).completions = (s.port p).completions
        ∧ (t.port p).credits = (s.port p).credits + 1)
      ∧ (r.quiet = false → ∃ c, (t.port p).completions = (s.port p).completions ++ [c] ∧ c.status = .ok
        ∧ c.attempts = x.attempt ∧ c.tag = r.tag ∧ c.body = [] ∧ (t.port p).credits = (s.port p).credits)
      ∧ t.line = s.line ∧ t.arbiter = s.arbiter ∧ t.routing = s.routing)
    ∧ (∀ (s : State) (x : Exchange) (p : Port) (r : Request) (k : Nat) (e : Entry) (tog : Bool) (j : WatchNo),
        x.origin = .port p → x.kind = .cwriteAsWrite → x.purpose = .request → x.slot = some k → x.orphan = false →
        x.discard = false → x.toggleSent = some tog → x.watchSlot = some j → (s.port p).inFlight = some r →
        r.isCwrite = true → s.entry k = some e → e.state = .online ∨ e.state = .suspect →
        let t := s.handEnd x { status := .ok }
        t.exchange = none ∧ t.entry k = some { e with toggle := some (!tog) }
          ∧ (∀ q i, t.watch q i = if q = p ∧ i = j then Watch.emptySlot
              else (s.watch q i).breakBy (hitsWrite x.address x.first x.count) .write)
          ∧ (∀ q, (t.port q).sticky.broken = ((s.port q).sticky.broken || s.anyWatch q fun i w =>
              !decide (q = p ∧ i = j) && w.notify && w.hitBy (hitsWrite x.address x.first x.count)))
          ∧ (t.port p).inFlight = none ∧ (t.port p).credits = (s.port p).credits
          ∧ (∃ c, (t.port p).completions = (s.port p).completions ++ [c] ∧ c.status = .ok ∧ c.attempts = x.attempt
            ∧ c.tag = r.tag ∧ c.body = [])
          ∧ ∀ o : Final, (s.handEnd x o).watch p j = Watch.emptySlot)
    ∧ (∀ (s : State) (x : Exchange) (p : Port) (r : Request) (k : Nat) (j : WatchNo) (values : List Half),
        x.origin = .port p → x.kind = .read → x.purpose = .request → x.slot = some k → x.orphan = false →
        x.discard = false → x.watchSlot = some j → (s.port p).inFlight = some r → r.isRead = true →
        let t := s.handEnd x { status := .ok, values := values }
        (∀ q i, t.watch q i = if q = p ∧ i = j then {
              state := .armed, cover := some ⟨x.address, x.first, x.count⟩, notify := r.notify, cause := .none
              life := if s.loader.params.watchLifetime = 0 then .unlimited else .ticks s.loader.params.watchLifetime }
            else s.watch q i)
          ∧ (∀ i, t.entry i = s.entry i)
          ∧ ∃ c, (t.port p).completions = (s.port p).completions ++ [c] ∧ c.status = .ok ∧ c.attempts = x.attempt
            ∧ c.tag = r.tag ∧ c.body = packHalves values)
    ∧ (∀ (s : State) (x : Exchange) (k : Nat) (e : Entry) (o : Final),
        x.purpose = .request ∨ x.purpose = .poll ∨ x.purpose = .resync → x.slot = some k → x.orphan = false →
        s.entry k = some e → e.state = .online ∨ e.state = .suspect → o.report = none →
        let t := s.handEnd x o
        let next : StationState := if e.failures + 1 = s.loader.params.failureThreshold then .offline else .suspect
        (o.status = .noResponse ∨ o.status = .badReply →
          t.entry k = some { e with
              failures := e.failures + 1, state := next
              toggle := if next = .offline ∨ x.kind = .write ∨ x.kind = .cwriteAsWrite then none else e.toggle
              countdown := if next = .offline then s.loader.params.reprobeInterval else e.countdown
              changed := if next = e.state then e.changed else PortSet.union e.changed e.attached }
            ∧ (∀ j, j ≠ k → t.entry j = s.entry j)
            ∧ (∀ q, (t.port q).sticky.changed
              = ((s.port q).sticky.changed || (decide (next ≠ e.state) && e.attached.get q)))
            ∧ (∀ q j, ¬ (x.kind = .cwriteAsWrite ∧ x.origin = .port q ∧ x.watchSlot = some j) →
              t.watch q j = if next = .offline ∧ (s.watch q j).state = .armed ∧ (s.watch q j).names e.address = true then
                  { s.watch q j with state := .broken, cause := .offline }
                else s.watch q j)
            ∧ (∀ q, (t.port q).sticky.broken = ((s.port q).sticky.broken || s.anyWatch q fun _ w =>
                decide (next = .offline) && w.notify && decide (w.state = .armed) && w.names e.address)))
        ∧ (o.status = .refused ∨ o.status = .busy → ∀ i, t.entry i = s.entry i))
    ∧ (∀ (s : State) (x : Exchange) (p : Port) (r : Request) (o : Final),
        x.origin = .port p → x.purpose = .request → (s.port p).inFlight = some r →
        let t := s.handEnd x o
        (x.discard = true → (t.port p).completions = (s.port p).completions ∧ (t.port p).inFlight = none
          ∧ (t.port p).credits = (s.port p).credits + 1
          ∧ (t.port p).state = (if (s.port p).state = .closing then .closed else (s.port p).state))
        ∧ (x.discard = true → x.kind = .read → o.status = .ok → o.report = none → t.watches = s.watches)
        ∧ (x.orphan = true → t.table = s.table ∧ t.watches = s.watches ∧ t.routing = s.routing ∧ OnlyPort s t p
          ∧ t.arbiter = s.arbiter)
        ∧ (x.discard = false → r.quiet = false ∨ o.status ≠ .ok →
          ∃ c, (t.port p).completions = (s.port p).completions ++ [c] ∧ (t.port p).inFlight = none
            ∧ c.status = o.status ∧ c.detail = o.detail ∧ c.attempts = x.attempt ∧ c.kind = r.kind ∧ c.tag = r.tag
            ∧ (o.status ≠ .ok → c.body = []) ∧ (t.port p).credits = (s.port p).credits))

/-- The end of a probe (R34, R37, R48, R154): OK takes the entry to ONLINE with toggle 0, ack bit 1 and the PONG's fields;
anything else to OFFLINE with the countdown at the reprobe interval; every attached port joins the changed set and has
CHANGED set; and an ATTACH waiting on the entry completes OK with detail ONLINE, or OFFLINE. The end of a reprobe (R36):
OK takes the entry to ONLINE in the same way but keeps the ack bit; anything else loads the countdown again and changes
nothing more. The end of a resync PING whose pairing stands: OK sets the toggle to 0 and starts the paired request in the
same change, with T = 0 (R92); any other end completes it NORESPONSE with the attempts of the PING, a CWRITE's slot is
emptied, and the pairing is none (R93), shown where nothing else waits. -/
def Obligations.ProbeEndSettlesTheEntry : Prop :=
  (∀ (s : State) (x : Exchange) (o : Final) (k : Nat) (e : Entry),
    x.purpose = .probe → x.origin = .internal → x.kind = .ping → x.slot = some k → x.orphan = false →
    o.report = none → s.entry k = some e → e.state = .probing →
    let t := s.handEnd x o
    let state : StationState := if o.status = .ok then .online else .offline
    t.exchange = none
      ∧ t.entry k = some (if o.status = .ok then { e with
            state := .online, toggle := some false, ack := true, capable := (o.pong.getD (false, 0)).1
            highest := (o.pong.getD (false, 0)).2, failures := 0, changed := PortSet.union e.changed e.attached }
          else { e with
            state := .offline, countdown := s.loader.params.reprobeInterval
            changed := PortSet.union e.changed e.attached })
      ∧ (∀ j, j ≠ k → t.entry j = s.entry j) ∧ t.watches = s.watches
      ∧ (∀ q, (t.port q).sticky.changed = ((s.port q).sticky.changed || e.attached.get q))
      ∧ ∀ q, (∀ r rest, (s.port q).headMark = .waiting → (s.port q).queue = r :: rest → r.top = e.address →
          (t.port q).queue = rest ∧ (t.port q).headMark = .none ∧ (t.port q).credits = (s.port q).credits
          ∧ ∃ c, (t.port q).completions = (s.port q).completions ++ [c] ∧ c.tag = r.tag
            ∧ c.status = (if state = .online then .ok else .offline)
            ∧ c.detail = (if state = .online then 2#4 else 0#4))
        ∧ ((s.port q).headMark ≠ .waiting → (t.port q).queue = (s.port q).queue
          ∧ (t.port q).completions = (s.port q).completions))
    ∧ (∀ (s : State) (x : Exchange) (o : Final) (k : Nat) (e : Entry),
        x.purpose = .reprobe → x.origin = .internal → x.kind = .ping → x.slot = some k → x.orphan = false →
        o.report = none → s.entry k = some e → e.state = .offline →
        let t := s.handEnd x o
        t.exchange = none ∧ t.watches = s.watches ∧ (∀ j, j ≠ k → t.entry j = s.entry j)
          ∧ (o.status = .ok → t.entry k = some { e with
              state := .online, toggle := some false, capable := (o.pong.getD (false, 0)).1
              highest := (o.pong.getD (false, 0)).2, failures := 0, changed := PortSet.union e.changed e.attached }
            ∧ ∀ q, t.port q = if e.attached.get q then
                { s.port q with sticky := { (s.port q).sticky with changed := true } } else s.port q)
          ∧ (o.status ≠ .ok → t.entry k = some { e with countdown := s.loader.params.reprobeInterval }
            ∧ t.ports = s.ports))
    ∧ (∀ (s : State) (x : Exchange) (o : Final) (p : Port) (r : Request) (rest : List Request) (k : Nat) (e : Entry),
        x.purpose = .resync → x.origin = .internal → x.kind = .ping → x.slot = some k → x.orphan = false →
        o.report = none → s.entry k = some e → e.state = .online ∨ e.state = .suspect →
        s.arbiter.pairing = some p → (s.port p).queue = r :: rest → (r.isWrite = true ∨ r.isCwrite = true) →
        s.slotOf r.top = some k → r.top ≠ 0 → s.Quiet →
        let t := s.endExchange x o
        (o.status = .ok → ∃ y, t.exchange = some y ∧ y.origin = .port p
          ∧ y.kind = (if r.isCwrite then .cwriteAsWrite else .write) ∧ y.slot = some k ∧ y.address = r.top
          ∧ y.toggleSent = some false ∧ y.frame = writeFrame r.top false r.first r.values ∧ y.attempt = 1
          ∧ y.watchSlot = (if r.isCwrite then some r.slot else none) ∧ t.line = s.line.give y.frame
          ∧ t.port p = { s.port p with queue := rest, headMark := .none, inFlight := some r } ∧ OnlyPort s t p
          ∧ t.entry k = some { e with toggle := some false } ∧ (∀ j, j ≠ k → t.entry j = s.entry j)
          ∧ t.arbiter = { s.arbiter with used := s.arbiter.used + 1, pairing := none } ∧ t.watches = s.watches)
        ∧ (o.status ≠ .ok → rest = [] → (∀ q, q ≠ p → (s.port q).queue = []) → s.arbiter.serviceList = [] →
          s.arbiter.cycleOpen = false →
          t.exchange = none ∧ t.arbiter.pairing = none ∧ (t.port p).queue = [] ∧ (t.port p).headMark = .none
            ∧ (t.port p).credits = (s.port p).credits
            ∧ (∃ c, (t.port p).completions = (s.port p).completions ++ [c] ∧ c.status = .noResponse
              ∧ c.detail = 0 ∧ c.attempts = x.attempt ∧ c.tag = r.tag ∧ c.body = [])
            ∧ (r.isCwrite = true → t.watch p r.slot = Watch.emptySlot)
            ∧ (o.status ≠ .noResponse → o.status ≠ .badReply → t.table = s.table)))

/-- A heard claim (R31): an ONLINE entry has its failure count at 0, a SUSPECT one goes to ONLINE with failures 0 and
its attached ports have CHANGED set (R37); PROBING and OFFLINE are not touched. The poll burst (R85): with more
pending and fewer than 4 POLLs made the cursor stays; otherwise it advances by 1 with the burst count 0 and the burst
address none, and past slot 31 the cycle closes (R86). The cursor 0 of a closed cycle is the model's choice (log 15).
-/
def Obligations.HeardStationsAndPollBursts : Prop :=
  (∀ (s : State) (k : Nat) (e : Entry), s.entry k = some e →
    (e.state = .online → (s.heard k).entry k = some { e with failures := 0 } ∧ (s.heard k).ports = s.ports)
    ∧ (e.state = .suspect → (s.heard k).entry k = some { e with
          failures := 0, state := .online, changed := PortSet.union e.changed e.attached }
        ∧ ∀ q, (s.heard k).port q = if e.attached.get q then
            { s.port q with sticky := { (s.port q).sticky with changed := true } } else s.port q)
    ∧ (e.state = .probing ∨ e.state = .offline → s.heard k = s))
    ∧ (∀ (a : Arbiter) (more : Bool),
        (more = true → a.burstCount < 4 → a.pollEnded more = a)
        ∧ (more = false ∨ 4 ≤ a.burstCount →
          (a.cursor < 31 → a.pollEnded more
            = { a with cursor := a.cursor + 1, burstCount := 0, burstAddress := none })
          ∧ (31 ≤ a.cursor → a.pollEnded more
            = { a with cycleOpen := false, cursor := 0, burstCount := 0, burstAddress := none })))

/-- The routing of an accepted report (R122, R108, R127-R130) to each attached port: its wake patterns are tried on every
item, and the items its filter accepts make one ITEMS record with the gap mark in its flag, at the tail of a queue with
fewer than 32 records, clearing the mark; a full queue sets the mark; with no item accepted neither changes. Watches on
the station that hold an item's point break. A port that is not attached keeps its records and its WAKE flag. -/
def Obligations.ReportsAreRouted : Prop :=
  ∀ (s : State) (k : Nat) (station : Byte) (items : List Item) (e : Entry), s.entry k = some e →
    let t := s.route k station items
    (∀ q j, t.watch q j = (s.watch q j).breakBy (hitsReport station items) .report)
      ∧ ∀ p,
        let f := s.routing.get p
        let accepted := items.filter (f.accepts station)
        (e.attached.get p = false → (t.port p).reports = (s.port p).reports
          ∧ (t.port p).sticky.wake = (s.port p).sticky.wake)
        ∧ (e.attached.get p = true →
          (t.port p).sticky.wake = ((s.port p).sticky.wake || items.any fun i => f.patterns.toList.any fun w =>
              w.enabled && (w.station == station) && (w.point == i.point) && ((i.value &&& w.mask) == w.compare))
          ∧ (t.port p).reports = (if accepted ≠ [] ∧ (s.port p).reports.length < 32 then
              (s.port p).reports ++ [⟨station, e.gaps.get p, accepted⟩] else (s.port p).reports)
          ∧ ∃ e', t.entry k = some e' ∧ e'.gaps.get p = (if accepted = [] then e.gaps.get p
              else decide (32 ≤ (s.port p).reports.length)))

/-! ### Slow time -/

/-- TICK (R95): the poll timer decreases by 1; the tick that brings it to 0 is the poll tick; a stopped timer takes
none. POLL_TICK (R95, R96, R35, R110) with an exchange in flight, so that no choice follows: the timer is loaded with
the poll period; every ARMED watch ages, and one whose life reaches 0 is BROKEN with cause EXPIRED; every OFFLINE
countdown above 0 decreases, and each that reaches 0 has a reprobe on the service list, the order among several being
open; a closed cycle opens at slot 0 when polling is enabled; an open one is an overrun, counted modulo 256, with
OVERRUN set on every OPEN or DOZING port. With polling disabled the cycle and the count stay. The cursor walk of a
choice (R80, R84, R86) with an open cycle, an idle record and an empty service list: the first pollable slot at or after
the cursor has a POLL started, the burst count rising by 1 at the cursor's slot and starting at 1 past it; with no
pollable slot the cycle closes (its cursor at 0: log 15), and with no request waiting nothing starts. A poll tick on an
idle record, with polling enabled, nothing due and nothing waiting, opens the cycle and makes that choice in the same
change. -/
def Obligations.TicksReachThePollTickAndItsOwners : Prop :=
  (∀ s : State,
    (s.arbiter.pollTimer = none → exec .tick s = .next s)
    ∧ (∀ n, s.arbiter.pollTimer = some n → 1 < n →
      exec .tick s = .next { s with arbiter := { s.arbiter with pollTimer := some (n - 1) } })
    ∧ (s.arbiter.pollTimer = some 1 → exec .tick s = exec .pollTick s))
    ∧ (∀ (s : State), s.arbiter.pollTimer.isSome = true → s.exchange.isSome = true → s.Quiet →
        let enabled := s.loader.params.pollingEnabled
        ∃ t, exec .pollTick s = .next t
          ∧ t.arbiter.pollTimer = some s.loader.params.pollPeriod ∧ t.exchange = s.exchange
          ∧ (∀ p k, t.watch p k = (match (s.watch p k).state, (s.watch p k).life with
              | .armed, .ticks n =>
                if n ≤ 1 then { s.watch p k with state := .broken, cause := .expired, life := .ticks 0 }
                else { s.watch p k with life := .ticks (n - 1) }
              | _, _ => s.watch p k))
          ∧ (∀ k, t.entry k = (s.entry k).map fun e =>
              if e.state = .offline ∧ 0 < e.countdown then { e with countdown := e.countdown - 1 } else e)
          ∧ (∃ due : List ServiceItem, t.arbiter.serviceList = s.arbiter.serviceList ++ due ∧ due.Nodup
            ∧ ∀ i, i ∈ due ↔ i.purpose = .reprobe ∧ i.slot < s.table.length ∧ ∃ e, s.entry i.slot = some e
                ∧ e.address = i.address ∧ e.state = .offline ∧ e.countdown = 1)
          ∧ (enabled = true → s.arbiter.cycleOpen = false → t.arbiter.cycleOpen = true ∧ t.arbiter.cursor = 0
            ∧ t.arbiter.burstCount = 0 ∧ t.arbiter.burstAddress = none ∧ t.arbiter.overruns = s.arbiter.overruns)
          ∧ (enabled = true → s.arbiter.cycleOpen = true → t.arbiter.cycleOpen = true
            ∧ t.arbiter.cursor = s.arbiter.cursor ∧ t.arbiter.overruns = s.arbiter.overruns + 1
            ∧ ∀ p, (t.port p).sticky.overrun
              = ((s.port p).sticky.overrun || decide ((s.port p).state = .opened ∨ (s.port p).state = .dozing)))
          ∧ (enabled = false → t.arbiter.cycleOpen = s.arbiter.cycleOpen ∧ t.arbiter.overruns = s.arbiter.overruns)
          ∧ (∀ p, (t.port p).sticky.broken = ((s.port p).sticky.broken || s.anyWatch p fun _ w => w.notify
              && decide (w.state = .armed) && (match w.life with | .ticks n => decide (n ≤ 1) | .unlimited => false))))
    ∧ (∀ s : State, s.run = .running → s.exchange = none → s.arbiter.serviceList = [] → s.arbiter.cycleOpen = true →
        let a := s.arbiter
        let pollable (n : Nat) (e : Entry) : Prop := (e.state = .online ∨ e.state = .suspect) ∧ e.capable = true
          ∧ (n = a.cursor → 0 < a.burstCount → a.burstAddress = some e.address)
        (∀ n e, a.cursor ≤ n → n < 32 → s.entry n = some e → pollable n e →
          (∀ m f, a.cursor ≤ m → m < n → s.entry m = some f → ¬ pollable m f) →
          s.choice = { s with
            exchange := some (pollExchange n e), line := s.line.give (pollFrame e.address ⟨e.ack, true⟩)
            arbiter := { a with
              cursor := n, burstCount := (if n = a.cursor then a.burstCount else 0) + 1
              burstAddress := some e.address } })
        ∧ (a.cursor < 32 → (∀ m f, a.cursor ≤ m → m < 32 → s.entry m = some f → ¬ pollable m f) →
          (∀ q, (s.port q).queue = []) →
          s.choice = { s with
            arbiter := { a with cycleOpen := false, cursor := 0, burstCount := 0, burstAddress := none } }))
    ∧ (∀ s : State, s.run = .running → s.exchange = none → s.NothingWaits → s.arbiter.pollTimer.isSome = true →
        s.loader.params.pollingEnabled = true →
        (∀ k e, s.entry k = some e → e.state = .offline → e.countdown ≠ 1) →
        let pollable (e : Entry) : Prop := (e.state = .online ∨ e.state = .suspect) ∧ e.capable = true
        ∃ t, exec .pollTick s = .next t ∧ t.arbiter.pollTimer = some s.loader.params.pollPeriod
          ∧ (∀ n e, n < 32 → s.entry n = some e → pollable e →
            (∀ m f, m < n → s.entry m = some f → ¬ pollable f) →
            t.exchange = some (pollExchange n e) ∧ t.line = s.line.give (pollFrame e.address ⟨e.ack, true⟩)
              ∧ t.arbiter.cycleOpen = true ∧ t.arbiter.cursor = n ∧ t.arbiter.burstCount = 1
              ∧ t.arbiter.burstAddress = some e.address)
          ∧ ((∀ m f, m < 32 → s.entry m = some f → ¬ pollable f) →
            t.exchange = none ∧ t.line = s.line ∧ t.arbiter.cycleOpen = false))

/-- REPROBE_DUE and WATCH_EXPIRED (R35, R110), the shares of one entry and one slot in a poll tick (DESIGN CHOICE, log
5): the countdown of an OFFLINE entry goes from 1 to 0 and its reprobe joins the service list, and starts when the
record is idle and the list was empty; an ARMED watch with one tick of life becomes BROKEN with cause EXPIRED and life
0, and its port is handed BROKEN when it has notify set. -/
def Obligations.ReprobesFallDueAndWatchesExpire : Prop :=
  ∀ s : State, s.run = .running →
    (∀ (slot : Fin 32) (e : Entry), s.entry slot.val = some e → e.state = .offline → e.countdown = 1 → s.Quiet →
      (s.exchange.isSome = true → exec (.reprobeDue slot) s = .next { s with
        table := s.table.set slot.val (some { e with countdown := 0 })
        arbiter := { s.arbiter with
          serviceList := s.arbiter.serviceList ++ [⟨slot.val, e.address, .reprobe⟩] } })
      ∧ (s.exchange = none → s.arbiter.serviceList = [] → exec (.reprobeDue slot) s = .next { s with
        table := s.table.set slot.val (some { e with countdown := 0 })
        exchange := some (pingExchange .reprobe slot.val { e with countdown := 0 })
        line := s.line.give (pingFrame e.address ⟨e.ack, true⟩) }))
    ∧ ∀ (p : Port) (k : WatchNo), (s.watch p k).state = .armed → (s.watch p k).life = .ticks 1 →
      ∃ t, exec (.watchExpired p k) s = .next t
        ∧ (∀ q j, t.watch q j = if q = p ∧ j = k then
            { s.watch p k with state := .broken, cause := .expired, life := .ticks 0 } else s.watch q j)
        ∧ (∀ q, t.port q = if q = p ∧ (s.watch p k).notify = true then
            { s.port q with sticky := { (s.port q).sticky with broken := true } } else s.port q)
        ∧ { t with ports := s.ports, watches := s.watches } = s

/-! ### Layouts -/

/-- A frame of a station to the part, with any payload of up to 67 bytes, is evaluated by its kind and shape: no byte of
the layout of R11 and R192 is dropped, and the check it carries is the check computed. The kinds and shapes of R8 and
Section 10.1: PONG (9) of 3 bytes; ANSWER (10) of 1 + 2n, n of 1-32, with a fragment index of 0-3; ACCEPT (11) and
NOTHING (14) of none; REFUSE (12) of 1; REPORT (13) of 1 + 4n, n of 1-8, with the item count n. Every other frame is
malformed. The fields of each (R18-R21, R192): report-capable in bit 0 of the flags, every number high byte first, T in
bit 4 and M in bit 5 of the control byte, an unassigned reason as FAULT. -/
def Obligations.StationFramesEvaluateBack : Prop :=
  (∀ (source control : Byte) (payload : List Byte), payload.length ≤ 67 →
    evaluateFrame (frameOf 240#8 source control payload)
      = match replyOf control payload with
        | none => .malformed source
        | some reply => .valid source reply)
    ∧ (∀ (control : Byte) (payload : List Byte),
        let kind := control.toNat % 16
        let n := payload.length
        let b (i : Nat) : Byte := payload.getD i 0
        ((replyOf control payload).isSome = true ↔
          (kind = 9 ∧ n = 3) ∨ (kind = 10 ∧ (∃ m, 1 ≤ m ∧ m ≤ 32 ∧ n = 1 + 2 * m) ∧ (b 0).toNat ≤ 3)
            ∨ (kind = 11 ∧ n = 0) ∨ (kind = 12 ∧ n = 1)
            ∨ (kind = 13 ∧ ∃ m, 1 ≤ m ∧ m ≤ 8 ∧ n = 1 + 4 * m ∧ (b 0).toNat = m) ∨ (kind = 14 ∧ n = 0))
        ∧ ∀ reply, replyOf control payload = some reply →
          match reply with
          | .pong capable highest => kind = 9 ∧ capable = (b 0).getLsbD 0 ∧ highest = b 1 ++ b 2
          | .answer index values more => kind = 10 ∧ index = (b 0).toNat ∧ more = control.getLsbD 5
            ∧ n = 1 + 2 * values.length
            ∧ ∀ i, i < values.length → values.getD i 0 = b (1 + 2 * i) ++ b (2 + 2 * i)
          | .accept => kind = 11
          | .refuse reason => kind = 12 ∧ reason
            = (if b 0 = 1 then .nopoint else if b 0 = 2 then .denied else if b 0 = 3 then .busy else .fault)
          | .report t more items => kind = 13 ∧ t = control.getLsbD 4 ∧ more = control.getLsbD 5
            ∧ n = 1 + 4 * items.length
            ∧ ∀ i, i < items.length → items[i]?
              = some ⟨b (1 + 4 * i) ++ b (2 + 4 * i), b (3 + 4 * i) ++ b (4 + 4 * i)⟩
          | .nothing => kind = 14)

/-- The request records (R193, Section 10.3): every field of a header, and of word 1 (and word 2) of each layout, is
read back as it was written, at every value; and the values of a WRITE or CWRITE (R151), as many as its count, two to a
word, the earlier in bits 31-16, the rest of the last word passed over. The completion and report records (R194, R195,
Sections 10.4 and 10.5): every field is read back from the words of a TAKE, and the record's first word gives its
length. The values of a READ stand two to a word, the earlier in bits 31-16, with 0 behind an odd last one; the
addresses of QUERY CHANGES four to a word, the first in bits 31-24, with 0 behind the last. The results of the other
QUERYs (R157, R194, Section 10.4): every field of an entry, of a watch slot (an EMPTY one showing 0 in both words) and
of the line parameters, the overrun count and the load result is read back from its bits, and the bits of no field are
0. -/
def Obligations.RecordFieldsReadBack : Prop :=
  (∀ (kind : BitVec 4) (h : Header) (a : Byte) (first : Half) (count : Byte) (body : List Word),
    let line : Request := ⟨headerWord kind h, lineWord a first count :: body⟩
    let one : Request := ⟨headerWord kind h, addressWord a :: body⟩
    let sub : Request := ⟨headerWord kind h, subWord a count first :: body⟩
    (line.kind = kind ∧ line.tag = h.tag ∧ line.slot = h.slot ∧ line.quiet = h.quiet ∧ line.notify = h.notify
      ∧ line.watch = h.watch ∧ line.badLength = (decide (h.length.toNat < 2) || decide (18 < h.length.toNat)))
    ∧ (line.top = a ∧ line.first = first ∧ line.count = count)
    ∧ one.top = a ∧ (sub.top = a ∧ sub.second = count ∧ sub.low = first)
    ∧ ∀ (n : BitVec 4) (enabled : Bool) (bits compare : Half),
      let wake : Request := ⟨headerWord kind h, wakesetWords n enabled a first bits compare ++ body⟩
      wake.patternNumber = n.toNat ∧ wake.pattern = ⟨enabled, a, first, bits, compare⟩)
    ∧ ((∀ c : Completion, c.body.length ≤ 64 → c.attempts ≤ 8 → ∃ w0 w1, c.words = w0 :: w1 :: c.body
          ∧ w0.extractLsb' 28 4 = c.kind ∧ w0.extractLsb' 24 4 = c.status.code ∧ w0.extractLsb' 20 4 = c.detail
          ∧ (w0.extractLsb' 16 4).toNat = c.attempts ∧ w0.extractLsb' 8 8 = c.tag
          ∧ (w0.extractLsb' 0 8).toNat = c.words.length
          ∧ w1.extractLsb' 24 8 = c.station ∧ w1.extractLsb' 8 16 = c.first ∧ w1.extractLsb' 0 8 = c.count)
        ∧ ∀ r : ItemsRecord, r.items.length ≤ 8 → ∃ w0, r.words = w0 :: r.items.map (fun i => i.point ++ i.value)
          ∧ w0.extractLsb' 28 4 = 1#4 ∧ w0.getLsbD 24 = r.gap ∧ (w0.extractLsb' 16 4).toNat = r.items.length
          ∧ w0.extractLsb' 8 8 = r.station ∧ (w0.extractLsb' 0 8).toNat = 1 + r.items.length)
    ∧ (∀ e : Entry, e.failures ≤ 15 → ∃ w2 w3, stationWords e = [w2, w3]
        ∧ (w2.extractLsb' 24 8).toNat = (match e.state with
            | .probing => 1
            | .online => 2
            | .suspect => 3
            | .offline => 4)
        ∧ (w2.extractLsb' 16 8).toNat = e.failures ∧ w2.extractLsb' 0 16 = e.highest
        ∧ w3.getLsbD 24 = e.capable ∧ w3.getLsbD 16 = e.toggle.isSome
        ∧ (w3.getLsbD 0 = e.attached.q0 ∧ w3.getLsbD 1 = e.attached.q1 ∧ w3.getLsbD 2 = e.attached.q2
          ∧ w3.getLsbD 3 = e.attached.q3)
        ∧ w3.extractLsb' 25 7 = 0#7 ∧ w3.extractLsb' 17 7 = 0#7 ∧ w3.extractLsb' 4 12 = 0#12)
    ∧ (∀ w : Watch, ∃ w0 w1, watchWords w = [w0, w1]
        ∧ (w0.extractLsb' 28 4).toNat = (match w.state with
            | .empty => 0
            | .armed => 1
            | .broken => 2
            | .committing => 3)
        ∧ (w0.extractLsb' 24 4).toNat = (match w.cause with
            | .none => 0
            | .write => 1
            | .broadcast => 2
            | .report => 3
            | .offline => 4
            | .expired => 5)
        ∧ (w0.getLsbD 16 = true ↔ w.life = .unlimited) ∧ w0.extractLsb' 17 7 = 0#7
        ∧ (∀ n, w.life = .ticks n → n ≤ 255 → (w0.extractLsb' 8 8).toNat = n)
        ∧ (w.life = .unlimited → w0.extractLsb' 8 8 = 0#8)
        ∧ (∀ c, w.cover = some c → c.count ≤ 128 → w0.extractLsb' 0 8 = c.station ∧ w1.extractLsb' 16 16 = c.first
          ∧ (w1.extractLsb' 0 16).toNat = c.count)
        ∧ (w = Watch.emptySlot → w0 = 0#32 ∧ w1 = 0#32))
    ∧ (∀ (p : LineParams) (overruns : Byte) (result : LoadResult), ParamsInRange p →
        ∃ w2 w3 w4 w5, lineWords p overruns result = [w2, w3, w4, w5]
        ∧ (w2.extractLsb' 28 4).toNat = p.rateCode ∧ (w2.extractLsb' 24 4).toNat = p.retryLimit
        ∧ (w2.extractLsb' 20 4).toNat = p.failureThreshold ∧ w2.getLsbD 19 = p.pollingEnabled
        ∧ w2.extractLsb' 13 6 = 0#6 ∧ (w2.extractLsb' 0 13).toNat = p.replyTimeout
        ∧ (w3.extractLsb' 24 8).toNat = p.pollPeriod ∧ (w3.extractLsb' 16 8).toNat = p.reprobeInterval
        ∧ (w3.extractLsb' 8 8).toNat = p.watchLifetime ∧ w3.extractLsb' 0 8 = overruns
        ∧ (w4.extractLsb' 20 12).toNat = p.holdoff
        ∧ (w4.getLsbD 16 = p.openAtStart.q0 ∧ w4.getLsbD 17 = p.openAtStart.q1 ∧ w4.getLsbD 18 = p.openAtStart.q2
          ∧ w4.getLsbD 19 = p.openAtStart.q3)
        ∧ (w4.extractLsb' 0 4).toNat = p.weights.q0 ∧ (w4.extractLsb' 4 4).toNat = p.weights.q1
        ∧ (w4.extractLsb' 8 4).toNat = p.weights.q2 ∧ (w4.extractLsb' 12 4).toNat = p.weights.q3
        ∧ (w5.extractLsb' 24 8).toNat = (match result with
            | .loaded => 1
            | .adjusted => 2
            | .defaultedAbsent => 3
            | .defaultedFormat => 4
            | .defaultedCheck => 5)
        ∧ w5.extractLsb' 0 24 = 0#24)
    ∧ (∀ (kind : BitVec 4) (h : Header) (a : Byte) (first : Half) (count : Byte) (words : List Word),
        let r : Request := ⟨headerWord kind h, lineWord a first count :: words⟩
        count.toNat ≤ 2 * words.length → r.values.length = count.toNat
          ∧ ∀ i, i < count.toNat → r.values[i]? = some (if i % 2 = 0 then (words.getD (i / 2) 0).extractLsb' 16 16
            else (words.getD (i / 2) 0).extractLsb' 0 16))
    ∧ (∀ values : List Half, (packHalves values).length = (values.length + 1) / 2
        ∧ ∀ i, i < (values.length + 1) / 2 → ∃ w, (packHalves values)[i]? = some w
          ∧ w.extractLsb' 16 16 = values.getD (2 * i) 0 ∧ w.extractLsb' 0 16 = values.getD (2 * i + 1) 0)
    ∧ (∀ addresses : List Byte, (packBytes addresses).length = (addresses.length + 3) / 4
        ∧ ∀ i, i < (addresses.length + 3) / 4 → ∃ w, (packBytes addresses)[i]? = some w
          ∧ w.extractLsb' 24 8 = addresses.getD (4 * i) 0 ∧ w.extractLsb' 16 8 = addresses.getD (4 * i + 1) 0
          ∧ w.extractLsb' 8 8 = addresses.getD (4 * i + 2) 0 ∧ w.extractLsb' 0 8 = addresses.getD (4 * i + 3) 0)

/-! ### The stations beside the part -/

/-- A station's sequencing (R25, R26, R41): after a PING with V = 1 or a POLL that a report-capable station takes, its
sequence bit is the other of 0 and 1 from K, and its head left the list exactly when K was the bit; a PING with V = 0
removes nothing and leaves the bit 0; every PING leaves the toggle none. A repeated addressed WRITE (R23): when the
station has taken the frame, the same frame again is accepted as a duplicate and changes nothing. -/
def Obligations.StationsSequenceReportsAndWrites : Prop :=
  (∀ (st : Station) (k v : Bool),
    ((st.ping k true).1.sequence = !k ∧ (st.ping k true).1.reports = (if k = st.sequence then st.reports.tail else st.reports)
      ∧ (st.ping k v).1.toggle = none)
    ∧ ((st.ping k false).1.sequence = false ∧ (st.ping k false).1.reports = st.reports)
    ∧ (st.capable = true → (st.poll k).1.sequence = !k
      ∧ (st.poll k).1.reports = (if k = st.sequence then st.reports.tail else st.reports)
      ∧ (st.poll k).1.toggle = st.toggle))
    ∧ (∀ (st : Station) (f : Heard), f.first + f.count ≤ st.points.length →
        let accept := [st.frame (controlByte false false false false kindAccept) []]
        (st.write f).2 = accept ∧ (st.write f).1.toggle = some f.t
          ∧ (st.toggle ≠ some f.t → (st.write f).1.points = Station.setPoints st.points f.first f.values)
          ∧ (st.write f).1.write f = ((st.write f).1, accept))

/-! ### Invariants of every step -/

/-- The credits are kept accounted (R146). -/
def Obligations.CreditsStayAccounted : Prop := ∀ s t : State, CreditInv s → step s = .next t → CreditInv t

/-- The Station Table keeps its form (R27, R47). -/
def Obligations.StationTableStaysWellFormed : Prop := ∀ s t : State, TableInv s → step s = .next t → TableInv t

/-- The service list holds each slot at most once, for entries in PROBING or OFFLINE only (R81). -/
def Obligations.ServiceListStaysSound : Prop := ∀ s t : State, ServiceInv s → step s = .next t → ServiceInv t

/-- The watch slots keep their form, each slot not EMPTY on a station whose entry is in use with the slot's port attached
(R99). The counts and stores stay within their limits (R2, R84, R85, R130, R135; a closed cycle at slot 0: log 15). -/
def Obligations.WatchSlotsAndStoresStayWellFormed : Prop :=
  (∀ s t : State, WatchInv s → step s = .next t → WatchInv t)
    ∧ (∀ s t : State, LimitInv s → step s = .next t → LimitInv t)

/-- The rest of the part is held until the load ends (R182), and the line parameters stay in their ranges (R186). -/
def Obligations.ThePartIsHeldUntilTheLoadEnds : Prop :=
  ∀ s t : State, step s = .next t → (LoadInv s → LoadInv t) ∧ (ParamInv s → ParamInv t)

/-- A local request at the head executes at once (R147): no step leaves one that may execute. -/
def Obligations.NoLocalRequestIsLeftReady : Prop := ∀ s t : State, s.Quiet → step s = .next t → t.Quiet

/-! ### The report records -/

/-- The report records (R195, Section 10.5). On TAKE-REPORT the words of the head record are sent in turn, and 0 from an
empty queue and after the last word of the record. The layout of word 0: kind 1 in bits 31-28, the gap flag in bit 24,
the item count in 19-16, the station in 15-8, the length in 7-0; each further word holds the point and the value of one
item, in order. A record with the gap flag clear and one with it set differ in bit 24 only. -/
def Obligations.ReportRecordsShowTheirItems : Prop :=
  (∀ (s : State) (p : Port), s.acts p .takeReport = true →
    ∃ t, exec (.takeReport p) s = .next t
      ∧ ((s.port p).reports = [] ∨ (s.port p).link.finished = true → (t.port p).link.sent = some 0
        ∧ (t.port p).link.finished = true)
      ∧ ∀ r rest, (s.port p).reports = r :: rest → (s.port p).link.finished = false →
        (s.port p).reportPos < 1 + r.items.length →
        (t.port p).link.sent = r.words[(s.port p).reportPos]?
        ∧ ((t.port p).link.finished = true ↔ (s.port p).reportPos = r.items.length))
    ∧ ∀ r : ItemsRecord, 1 ≤ r.items.length → r.items.length ≤ 8 →
      ∃ w0, r.words = w0 :: r.items.map (fun i => i.point ++ i.value)
        ∧ w0.extractLsb' 28 4 = 1#4 ∧ w0.getLsbD 24 = r.gap ∧ (w0.extractLsb' 16 4).toNat = r.items.length
        ∧ w0.extractLsb' 8 8 = r.station ∧ (w0.extractLsb' 0 8).toNat = 1 + r.items.length
        ∧ w0.extractLsb' 25 3 = 0#3 ∧ w0.extractLsb' 20 4 = 0#4
        ∧ ∃ v0, ({ r with gap := !r.gap } : ItemsRecord).words = v0 :: r.items.map (fun i => i.point ++ i.value)
          ∧ ∀ j, (v0.getLsbD j = w0.getLsbD j ↔ j ≠ 24)
end

