-- ==== Sys2Proof/Laws/Quad.lean ====
section
/-! SUPPORT. The small lemmas of `Quad`. -/

namespace Sys2Proof.Quad

variable {α β γ : Type}

@[ext] theorem ext_get {a b : Quad α} (h : ∀ i, a.get i = b.get i) : a = b := by
  cases a; cases b
  have h0 := h 0; have h1 := h 1; have h2 := h 2; have h3 := h 3
  simp only [get] at h0 h1 h2 h3
  subst h0 h1 h2 h3; rfl

theorem forall_fin {P : Fin 4 → Prop} : (∀ i, P i) ↔ P 0 ∧ P 1 ∧ P 2 ∧ P 3 :=
  ⟨fun h => ⟨h 0, h 1, h 2, h 3⟩, fun h i => by
    match i with
    | 0 => exact h.1
    | 1 => exact h.2.1
    | 2 => exact h.2.2.1
    | 3 => exact h.2.2.2⟩

@[simp] theorem get_set_same (q : Quad α) (i : Fin 4) (a : α) : (q.set i a).get i = a := by
  match i with
  | 0 => rfl
  | 1 => rfl
  | 2 => rfl
  | 3 => rfl

theorem get_set (q : Quad α) (i j : Fin 4) (a : α) : (q.set i a).get j = if j = i then a else q.get j := by
  revert i j
  rw [forall_fin]
  refine ⟨?_, ?_, ?_, ?_⟩ <;> rw [forall_fin] <;> exact ⟨rfl, rfl, rfl, rfl⟩

theorem get_set_ne (q : Quad α) {i j : Fin 4} (h : j ≠ i) (a : α) : (q.set i a).get j = q.get j := by
  rw [get_set, if_neg h]

@[simp] theorem set_get (q : Quad α) (i : Fin 4) : q.set i (q.get i) = q := by
  ext j; rw [get_set]; split
  · subst_vars; rfl
  · rfl

@[simp] theorem set_set (q : Quad α) (i : Fin 4) (a b : α) : (q.set i a).set i b = q.set i b := by
  ext j; simp only [get_set]; split <;> rfl

@[simp] theorem get_ofFn (f : Fin 4 → α) (i : Fin 4) : (ofFn f).get i = f i := by
  match i with
  | 0 => rfl
  | 1 => rfl
  | 2 => rfl
  | 3 => rfl

@[simp] theorem get_fill (a : α) (i : Fin 4) : (fill a).get i = a := by
  match i with
  | 0 => rfl
  | 1 => rfl
  | 2 => rfl
  | 3 => rfl

@[simp] theorem get_map (f : α → β) (q : Quad α) (i : Fin 4) : (q.map f).get i = f (q.get i) := by
  match i with
  | 0 => rfl
  | 1 => rfl
  | 2 => rfl
  | 3 => rfl

@[simp] theorem get_zip (f : α → β → γ) (a : Quad α) (b : Quad β) (i : Fin 4) :
    (zip f a b).get i = f (a.get i) (b.get i) := by
  match i with
  | 0 => rfl
  | 1 => rfl
  | 2 => rfl
  | 3 => rfl

end Sys2Proof.Quad
end

