-- ==== Sys2Proof/Laws/State.lean ====
section
/-! SUPPORT. What each named update leaves as it was, one lemma a field. -/

namespace Sys2Proof.Machine

open Sys2Proof

@[simp] theorem State.setPort_run (s : State) (p : Port) (u : PortUnit) : (s.setPort p u).run = s.run := rfl
@[simp] theorem State.setPort_loader (s : State) (p : Port) (u : PortUnit) : (s.setPort p u).loader = s.loader := rfl
@[simp] theorem State.setPort_line (s : State) (p : Port) (u : PortUnit) : (s.setPort p u).line = s.line := rfl
@[simp] theorem State.setPort_exchange (s : State) (p : Port) (u : PortUnit) :
    (s.setPort p u).exchange = s.exchange := rfl
@[simp] theorem State.setPort_table (s : State) (p : Port) (u : PortUnit) : (s.setPort p u).table = s.table := rfl
@[simp] theorem State.setPort_arbiter (s : State) (p : Port) (u : PortUnit) :
    (s.setPort p u).arbiter = s.arbiter := rfl
@[simp] theorem State.setPort_watches (s : State) (p : Port) (u : PortUnit) :
    (s.setPort p u).watches = s.watches := rfl
@[simp] theorem State.setPort_routing (s : State) (p : Port) (u : PortUnit) :
    (s.setPort p u).routing = s.routing := rfl
@[simp] theorem State.setPort_races (s : State) (p : Port) (u : PortUnit) : (s.setPort p u).races = s.races := rfl
@[simp] theorem State.setPort_pending (s : State) (p : Port) (u : PortUnit) :
    (s.setPort p u).pending = s.pending := rfl

@[simp] theorem State.updPort_run (s : State) (p : Port) (f : PortUnit → PortUnit) :
    (s.updPort p f).run = s.run := rfl
@[simp] theorem State.updPort_loader (s : State) (p : Port) (f : PortUnit → PortUnit) :
    (s.updPort p f).loader = s.loader := rfl
@[simp] theorem State.updPort_line (s : State) (p : Port) (f : PortUnit → PortUnit) :
    (s.updPort p f).line = s.line := rfl
@[simp] theorem State.updPort_exchange (s : State) (p : Port) (f : PortUnit → PortUnit) :
    (s.updPort p f).exchange = s.exchange := rfl
@[simp] theorem State.updPort_table (s : State) (p : Port) (f : PortUnit → PortUnit) :
    (s.updPort p f).table = s.table := rfl
@[simp] theorem State.updPort_arbiter (s : State) (p : Port) (f : PortUnit → PortUnit) :
    (s.updPort p f).arbiter = s.arbiter := rfl
@[simp] theorem State.updPort_watches (s : State) (p : Port) (f : PortUnit → PortUnit) :
    (s.updPort p f).watches = s.watches := rfl
@[simp] theorem State.updPort_routing (s : State) (p : Port) (f : PortUnit → PortUnit) :
    (s.updPort p f).routing = s.routing := rfl
@[simp] theorem State.updPort_races (s : State) (p : Port) (f : PortUnit → PortUnit) :
    (s.updPort p f).races = s.races := rfl
@[simp] theorem State.updPort_pending (s : State) (p : Port) (f : PortUnit → PortUnit) :
    (s.updPort p f).pending = s.pending := rfl

@[simp] theorem State.updPorts_run (s : State) (f : Port → PortUnit → PortUnit) : (s.updPorts f).run = s.run := rfl
@[simp] theorem State.updPorts_loader (s : State) (f : Port → PortUnit → PortUnit) :
    (s.updPorts f).loader = s.loader := rfl
@[simp] theorem State.updPorts_line (s : State) (f : Port → PortUnit → PortUnit) : (s.updPorts f).line = s.line := rfl
@[simp] theorem State.updPorts_exchange (s : State) (f : Port → PortUnit → PortUnit) :
    (s.updPorts f).exchange = s.exchange := rfl
@[simp] theorem State.updPorts_table (s : State) (f : Port → PortUnit → PortUnit) :
    (s.updPorts f).table = s.table := rfl
@[simp] theorem State.updPorts_arbiter (s : State) (f : Port → PortUnit → PortUnit) :
    (s.updPorts f).arbiter = s.arbiter := rfl
@[simp] theorem State.updPorts_watches (s : State) (f : Port → PortUnit → PortUnit) :
    (s.updPorts f).watches = s.watches := rfl
@[simp] theorem State.updPorts_routing (s : State) (f : Port → PortUnit → PortUnit) :
    (s.updPorts f).routing = s.routing := rfl
@[simp] theorem State.updPorts_races (s : State) (f : Port → PortUnit → PortUnit) :
    (s.updPorts f).races = s.races := rfl
@[simp] theorem State.updPorts_pending (s : State) (f : Port → PortUnit → PortUnit) :
    (s.updPorts f).pending = s.pending := rfl

@[simp] theorem State.notice_run (s : State) (ports : PortSet) (f : Sticky → Sticky) :
    (s.notice ports f).run = s.run := rfl
@[simp] theorem State.notice_loader (s : State) (ports : PortSet) (f : Sticky → Sticky) :
    (s.notice ports f).loader = s.loader := rfl
@[simp] theorem State.notice_line (s : State) (ports : PortSet) (f : Sticky → Sticky) :
    (s.notice ports f).line = s.line := rfl
@[simp] theorem State.notice_exchange (s : State) (ports : PortSet) (f : Sticky → Sticky) :
    (s.notice ports f).exchange = s.exchange := rfl
@[simp] theorem State.notice_table (s : State) (ports : PortSet) (f : Sticky → Sticky) :
    (s.notice ports f).table = s.table := rfl
@[simp] theorem State.notice_arbiter (s : State) (ports : PortSet) (f : Sticky → Sticky) :
    (s.notice ports f).arbiter = s.arbiter := rfl
@[simp] theorem State.notice_watches (s : State) (ports : PortSet) (f : Sticky → Sticky) :
    (s.notice ports f).watches = s.watches := rfl
@[simp] theorem State.notice_routing (s : State) (ports : PortSet) (f : Sticky → Sticky) :
    (s.notice ports f).routing = s.routing := rfl
@[simp] theorem State.notice_races (s : State) (ports : PortSet) (f : Sticky → Sticky) :
    (s.notice ports f).races = s.races := rfl
@[simp] theorem State.notice_pending (s : State) (ports : PortSet) (f : Sticky → Sticky) :
    (s.notice ports f).pending = s.pending := rfl

@[simp] theorem State.send_run (s : State) (p : Port) (w : Word) : (s.send p w).run = s.run := rfl
@[simp] theorem State.send_loader (s : State) (p : Port) (w : Word) : (s.send p w).loader = s.loader := rfl
@[simp] theorem State.send_line (s : State) (p : Port) (w : Word) : (s.send p w).line = s.line := rfl
@[simp] theorem State.send_exchange (s : State) (p : Port) (w : Word) : (s.send p w).exchange = s.exchange := rfl
@[simp] theorem State.send_table (s : State) (p : Port) (w : Word) : (s.send p w).table = s.table := rfl
@[simp] theorem State.send_arbiter (s : State) (p : Port) (w : Word) : (s.send p w).arbiter = s.arbiter := rfl
@[simp] theorem State.send_watches (s : State) (p : Port) (w : Word) : (s.send p w).watches = s.watches := rfl
@[simp] theorem State.send_routing (s : State) (p : Port) (w : Word) : (s.send p w).routing = s.routing := rfl
@[simp] theorem State.send_races (s : State) (p : Port) (w : Word) : (s.send p w).races = s.races := rfl
@[simp] theorem State.send_pending (s : State) (p : Port) (w : Word) : (s.send p w).pending = s.pending := rfl

@[simp] theorem State.setEntry_run (s : State) (k : Nat) (e : Option Entry) : (s.setEntry k e).run = s.run := rfl
@[simp] theorem State.setEntry_loader (s : State) (k : Nat) (e : Option Entry) :
    (s.setEntry k e).loader = s.loader := rfl
@[simp] theorem State.setEntry_line (s : State) (k : Nat) (e : Option Entry) : (s.setEntry k e).line = s.line := rfl
@[simp] theorem State.setEntry_exchange (s : State) (k : Nat) (e : Option Entry) :
    (s.setEntry k e).exchange = s.exchange := rfl
@[simp] theorem State.setEntry_arbiter (s : State) (k : Nat) (e : Option Entry) :
    (s.setEntry k e).arbiter = s.arbiter := rfl
@[simp] theorem State.setEntry_watches (s : State) (k : Nat) (e : Option Entry) :
    (s.setEntry k e).watches = s.watches := rfl
@[simp] theorem State.setEntry_routing (s : State) (k : Nat) (e : Option Entry) :
    (s.setEntry k e).routing = s.routing := rfl
@[simp] theorem State.setEntry_ports (s : State) (k : Nat) (e : Option Entry) :
    (s.setEntry k e).ports = s.ports := rfl
@[simp] theorem State.setEntry_races (s : State) (k : Nat) (e : Option Entry) :
    (s.setEntry k e).races = s.races := rfl
@[simp] theorem State.setEntry_pending (s : State) (k : Nat) (e : Option Entry) :
    (s.setEntry k e).pending = s.pending := rfl

@[simp] theorem State.updEntry_run (s : State) (k : Nat) (f : Entry → Entry) : (s.updEntry k f).run = s.run := by
  unfold State.updEntry; split <;> rfl
@[simp] theorem State.updEntry_loader (s : State) (k : Nat) (f : Entry → Entry) :
    (s.updEntry k f).loader = s.loader := by
  unfold State.updEntry; split <;> rfl
@[simp] theorem State.updEntry_line (s : State) (k : Nat) (f : Entry → Entry) : (s.updEntry k f).line = s.line := by
  unfold State.updEntry; split <;> rfl
@[simp] theorem State.updEntry_exchange (s : State) (k : Nat) (f : Entry → Entry) :
    (s.updEntry k f).exchange = s.exchange := by
  unfold State.updEntry; split <;> rfl
@[simp] theorem State.updEntry_arbiter (s : State) (k : Nat) (f : Entry → Entry) :
    (s.updEntry k f).arbiter = s.arbiter := by
  unfold State.updEntry; split <;> rfl
@[simp] theorem State.updEntry_watches (s : State) (k : Nat) (f : Entry → Entry) :
    (s.updEntry k f).watches = s.watches := by
  unfold State.updEntry; split <;> rfl
@[simp] theorem State.updEntry_routing (s : State) (k : Nat) (f : Entry → Entry) :
    (s.updEntry k f).routing = s.routing := by
  unfold State.updEntry; split <;> rfl
@[simp] theorem State.updEntry_ports (s : State) (k : Nat) (f : Entry → Entry) :
    (s.updEntry k f).ports = s.ports := by
  unfold State.updEntry; split <;> rfl
@[simp] theorem State.updEntry_races (s : State) (k : Nat) (f : Entry → Entry) :
    (s.updEntry k f).races = s.races := by
  unfold State.updEntry; split <;> rfl
@[simp] theorem State.updEntry_pending (s : State) (k : Nat) (f : Entry → Entry) :
    (s.updEntry k f).pending = s.pending := by
  unfold State.updEntry; split <;> rfl

@[simp] theorem State.setWatch_run (s : State) (p : Port) (k : WatchNo) (w : Watch) :
    (s.setWatch p k w).run = s.run := rfl
@[simp] theorem State.setWatch_loader (s : State) (p : Port) (k : WatchNo) (w : Watch) :
    (s.setWatch p k w).loader = s.loader := rfl
@[simp] theorem State.setWatch_line (s : State) (p : Port) (k : WatchNo) (w : Watch) :
    (s.setWatch p k w).line = s.line := rfl
@[simp] theorem State.setWatch_exchange (s : State) (p : Port) (k : WatchNo) (w : Watch) :
    (s.setWatch p k w).exchange = s.exchange := rfl
@[simp] theorem State.setWatch_table (s : State) (p : Port) (k : WatchNo) (w : Watch) :
    (s.setWatch p k w).table = s.table := rfl
@[simp] theorem State.setWatch_arbiter (s : State) (p : Port) (k : WatchNo) (w : Watch) :
    (s.setWatch p k w).arbiter = s.arbiter := rfl
@[simp] theorem State.setWatch_routing (s : State) (p : Port) (k : WatchNo) (w : Watch) :
    (s.setWatch p k w).routing = s.routing := rfl
@[simp] theorem State.setWatch_ports (s : State) (p : Port) (k : WatchNo) (w : Watch) :
    (s.setWatch p k w).ports = s.ports := rfl
@[simp] theorem State.setWatch_races (s : State) (p : Port) (k : WatchNo) (w : Watch) :
    (s.setWatch p k w).races = s.races := rfl
@[simp] theorem State.setWatch_pending (s : State) (p : Port) (k : WatchNo) (w : Watch) :
    (s.setWatch p k w).pending = s.pending := rfl

@[simp] theorem State.emptyWatch_run (s : State) (p : Port) (k : WatchNo) : (s.emptyWatch p k).run = s.run := rfl
@[simp] theorem State.emptyWatch_loader (s : State) (p : Port) (k : WatchNo) :
    (s.emptyWatch p k).loader = s.loader := rfl
@[simp] theorem State.emptyWatch_line (s : State) (p : Port) (k : WatchNo) : (s.emptyWatch p k).line = s.line := rfl
@[simp] theorem State.emptyWatch_exchange (s : State) (p : Port) (k : WatchNo) :
    (s.emptyWatch p k).exchange = s.exchange := rfl
@[simp] theorem State.emptyWatch_table (s : State) (p : Port) (k : WatchNo) :
    (s.emptyWatch p k).table = s.table := rfl
@[simp] theorem State.emptyWatch_arbiter (s : State) (p : Port) (k : WatchNo) :
    (s.emptyWatch p k).arbiter = s.arbiter := rfl
@[simp] theorem State.emptyWatch_routing (s : State) (p : Port) (k : WatchNo) :
    (s.emptyWatch p k).routing = s.routing := rfl
@[simp] theorem State.emptyWatch_ports (s : State) (p : Port) (k : WatchNo) :
    (s.emptyWatch p k).ports = s.ports := rfl
@[simp] theorem State.emptyWatch_races (s : State) (p : Port) (k : WatchNo) :
    (s.emptyWatch p k).races = s.races := rfl
@[simp] theorem State.emptyWatch_pending (s : State) (p : Port) (k : WatchNo) :
    (s.emptyWatch p k).pending = s.pending := rfl

@[simp] theorem State.emptyWatches_run (s : State) (p : Port) : (s.emptyWatches p).run = s.run := rfl
@[simp] theorem State.emptyWatches_loader (s : State) (p : Port) : (s.emptyWatches p).loader = s.loader := rfl
@[simp] theorem State.emptyWatches_line (s : State) (p : Port) : (s.emptyWatches p).line = s.line := rfl
@[simp] theorem State.emptyWatches_exchange (s : State) (p : Port) : (s.emptyWatches p).exchange = s.exchange := rfl
@[simp] theorem State.emptyWatches_table (s : State) (p : Port) : (s.emptyWatches p).table = s.table := rfl
@[simp] theorem State.emptyWatches_arbiter (s : State) (p : Port) : (s.emptyWatches p).arbiter = s.arbiter := rfl
@[simp] theorem State.emptyWatches_routing (s : State) (p : Port) : (s.emptyWatches p).routing = s.routing := rfl
@[simp] theorem State.emptyWatches_ports (s : State) (p : Port) : (s.emptyWatches p).ports = s.ports := rfl
@[simp] theorem State.emptyWatches_races (s : State) (p : Port) : (s.emptyWatches p).races = s.races := rfl
@[simp] theorem State.emptyWatches_pending (s : State) (p : Port) : (s.emptyWatches p).pending = s.pending := rfl

@[simp] theorem State.emptyWatchesOn_run (s : State) (p : Port) (a : Byte) : (s.emptyWatchesOn p a).run = s.run := rfl
@[simp] theorem State.emptyWatchesOn_loader (s : State) (p : Port) (a : Byte) :
    (s.emptyWatchesOn p a).loader = s.loader := rfl
@[simp] theorem State.emptyWatchesOn_line (s : State) (p : Port) (a : Byte) :
    (s.emptyWatchesOn p a).line = s.line := rfl
@[simp] theorem State.emptyWatchesOn_exchange (s : State) (p : Port) (a : Byte) :
    (s.emptyWatchesOn p a).exchange = s.exchange := rfl
@[simp] theorem State.emptyWatchesOn_table (s : State) (p : Port) (a : Byte) :
    (s.emptyWatchesOn p a).table = s.table := rfl
@[simp] theorem State.emptyWatchesOn_arbiter (s : State) (p : Port) (a : Byte) :
    (s.emptyWatchesOn p a).arbiter = s.arbiter := rfl
@[simp] theorem State.emptyWatchesOn_routing (s : State) (p : Port) (a : Byte) :
    (s.emptyWatchesOn p a).routing = s.routing := rfl
@[simp] theorem State.emptyWatchesOn_ports (s : State) (p : Port) (a : Byte) :
    (s.emptyWatchesOn p a).ports = s.ports := rfl
@[simp] theorem State.emptyWatchesOn_races (s : State) (p : Port) (a : Byte) :
    (s.emptyWatchesOn p a).races = s.races := rfl
@[simp] theorem State.emptyWatchesOn_pending (s : State) (p : Port) (a : Byte) :
    (s.emptyWatchesOn p a).pending = s.pending := rfl

@[simp] theorem State.breakWatches_run (s : State) (hit : Cover → Bool) (c : BreakCause) (o : Option (Port × WatchNo)) :
    (s.breakWatches hit c o).run = s.run := rfl
@[simp] theorem State.breakWatches_loader (s : State) (hit : Cover → Bool) (c : BreakCause) (o : Option (Port × WatchNo)) :
    (s.breakWatches hit c o).loader = s.loader := rfl
@[simp] theorem State.breakWatches_line (s : State) (hit : Cover → Bool) (c : BreakCause) (o : Option (Port × WatchNo)) :
    (s.breakWatches hit c o).line = s.line := rfl
@[simp] theorem State.breakWatches_exchange (s : State) (hit : Cover → Bool) (c : BreakCause) (o : Option (Port × WatchNo)) :
    (s.breakWatches hit c o).exchange = s.exchange := rfl
@[simp] theorem State.breakWatches_table (s : State) (hit : Cover → Bool) (c : BreakCause) (o : Option (Port × WatchNo)) :
    (s.breakWatches hit c o).table = s.table := rfl
@[simp] theorem State.breakWatches_arbiter (s : State) (hit : Cover → Bool) (c : BreakCause) (o : Option (Port × WatchNo)) :
    (s.breakWatches hit c o).arbiter = s.arbiter := rfl
@[simp] theorem State.breakWatches_routing (s : State) (hit : Cover → Bool) (c : BreakCause) (o : Option (Port × WatchNo)) :
    (s.breakWatches hit c o).routing = s.routing := rfl
@[simp] theorem State.breakWatches_races (s : State) (hit : Cover → Bool) (c : BreakCause) (o : Option (Port × WatchNo)) :
    (s.breakWatches hit c o).races = s.races := rfl
@[simp] theorem State.breakWatches_pending (s : State) (hit : Cover → Bool) (c : BreakCause) (o : Option (Port × WatchNo)) :
    (s.breakWatches hit c o).pending = s.pending := rfl

@[simp] theorem State.ageWatches_run (s : State) : (s.ageWatches).run = s.run := rfl
@[simp] theorem State.ageWatches_loader (s : State) : (s.ageWatches).loader = s.loader := rfl
@[simp] theorem State.ageWatches_line (s : State) : (s.ageWatches).line = s.line := rfl
@[simp] theorem State.ageWatches_exchange (s : State) : (s.ageWatches).exchange = s.exchange := rfl
@[simp] theorem State.ageWatches_table (s : State) : (s.ageWatches).table = s.table := rfl
@[simp] theorem State.ageWatches_arbiter (s : State) : (s.ageWatches).arbiter = s.arbiter := rfl
@[simp] theorem State.ageWatches_routing (s : State) : (s.ageWatches).routing = s.routing := rfl
@[simp] theorem State.ageWatches_races (s : State) : (s.ageWatches).races = s.races := rfl
@[simp] theorem State.ageWatches_pending (s : State) : (s.ageWatches).pending = s.pending := rfl

@[simp] theorem State.setRouting_run (s : State) (p : Port) (r : Routing) : (s.setRouting p r).run = s.run := rfl
@[simp] theorem State.setRouting_loader (s : State) (p : Port) (r : Routing) :
    (s.setRouting p r).loader = s.loader := rfl
@[simp] theorem State.setRouting_line (s : State) (p : Port) (r : Routing) : (s.setRouting p r).line = s.line := rfl
@[simp] theorem State.setRouting_exchange (s : State) (p : Port) (r : Routing) :
    (s.setRouting p r).exchange = s.exchange := rfl
@[simp] theorem State.setRouting_table (s : State) (p : Port) (r : Routing) :
    (s.setRouting p r).table = s.table := rfl
@[simp] theorem State.setRouting_arbiter (s : State) (p : Port) (r : Routing) :
    (s.setRouting p r).arbiter = s.arbiter := rfl
@[simp] theorem State.setRouting_watches (s : State) (p : Port) (r : Routing) :
    (s.setRouting p r).watches = s.watches := rfl
@[simp] theorem State.setRouting_ports (s : State) (p : Port) (r : Routing) :
    (s.setRouting p r).ports = s.ports := rfl
@[simp] theorem State.setRouting_races (s : State) (p : Port) (r : Routing) :
    (s.setRouting p r).races = s.races := rfl
@[simp] theorem State.setRouting_pending (s : State) (p : Port) (r : Routing) :
    (s.setRouting p r).pending = s.pending := rfl

@[simp] theorem State.setRx_run (s : State) (rx : Receiver) : (s.setRx rx).run = s.run := rfl
@[simp] theorem State.setRx_loader (s : State) (rx : Receiver) : (s.setRx rx).loader = s.loader := rfl
@[simp] theorem State.setRx_exchange (s : State) (rx : Receiver) : (s.setRx rx).exchange = s.exchange := rfl
@[simp] theorem State.setRx_table (s : State) (rx : Receiver) : (s.setRx rx).table = s.table := rfl
@[simp] theorem State.setRx_arbiter (s : State) (rx : Receiver) : (s.setRx rx).arbiter = s.arbiter := rfl
@[simp] theorem State.setRx_watches (s : State) (rx : Receiver) : (s.setRx rx).watches = s.watches := rfl
@[simp] theorem State.setRx_routing (s : State) (rx : Receiver) : (s.setRx rx).routing = s.routing := rfl
@[simp] theorem State.setRx_ports (s : State) (rx : Receiver) : (s.setRx rx).ports = s.ports := rfl
@[simp] theorem State.setRx_races (s : State) (rx : Receiver) : (s.setRx rx).races = s.races := rfl
@[simp] theorem State.setRx_pending (s : State) (rx : Receiver) : (s.setRx rx).pending = s.pending := rfl

@[simp] theorem State.startExchange_run (s : State) (x : Exchange) : (s.startExchange x).run = s.run := rfl
@[simp] theorem State.startExchange_loader (s : State) (x : Exchange) : (s.startExchange x).loader = s.loader := rfl
@[simp] theorem State.startExchange_table (s : State) (x : Exchange) : (s.startExchange x).table = s.table := rfl
@[simp] theorem State.startExchange_arbiter (s : State) (x : Exchange) :
    (s.startExchange x).arbiter = s.arbiter := rfl
@[simp] theorem State.startExchange_watches (s : State) (x : Exchange) :
    (s.startExchange x).watches = s.watches := rfl
@[simp] theorem State.startExchange_routing (s : State) (x : Exchange) :
    (s.startExchange x).routing = s.routing := rfl
@[simp] theorem State.startExchange_ports (s : State) (x : Exchange) : (s.startExchange x).ports = s.ports := rfl
@[simp] theorem State.startExchange_races (s : State) (x : Exchange) : (s.startExchange x).races = s.races := rfl
@[simp] theorem State.startExchange_pending (s : State) (x : Exchange) :
    (s.startExchange x).pending = s.pending := rfl

@[simp] theorem State.appendService_run (s : State) (i : ServiceItem) : (s.appendService i).run = s.run := rfl
@[simp] theorem State.appendService_loader (s : State) (i : ServiceItem) :
    (s.appendService i).loader = s.loader := rfl
@[simp] theorem State.appendService_line (s : State) (i : ServiceItem) : (s.appendService i).line = s.line := rfl
@[simp] theorem State.appendService_exchange (s : State) (i : ServiceItem) :
    (s.appendService i).exchange = s.exchange := rfl
@[simp] theorem State.appendService_table (s : State) (i : ServiceItem) : (s.appendService i).table = s.table := rfl
@[simp] theorem State.appendService_watches (s : State) (i : ServiceItem) :
    (s.appendService i).watches = s.watches := rfl
@[simp] theorem State.appendService_routing (s : State) (i : ServiceItem) :
    (s.appendService i).routing = s.routing := rfl
@[simp] theorem State.appendService_ports (s : State) (i : ServiceItem) : (s.appendService i).ports = s.ports := rfl
@[simp] theorem State.appendService_races (s : State) (i : ServiceItem) : (s.appendService i).races = s.races := rfl
@[simp] theorem State.appendService_pending (s : State) (i : ServiceItem) :
    (s.appendService i).pending = s.pending := rfl

@[simp] theorem State.createEntry_run (s : State) (k : Nat) (a : Byte) (ps : PortSet) :
    (s.createEntry k a ps).run = s.run := rfl
@[simp] theorem State.createEntry_loader (s : State) (k : Nat) (a : Byte) (ps : PortSet) :
    (s.createEntry k a ps).loader = s.loader := rfl
@[simp] theorem State.createEntry_line (s : State) (k : Nat) (a : Byte) (ps : PortSet) :
    (s.createEntry k a ps).line = s.line := rfl
@[simp] theorem State.createEntry_exchange (s : State) (k : Nat) (a : Byte) (ps : PortSet) :
    (s.createEntry k a ps).exchange = s.exchange := rfl
@[simp] theorem State.createEntry_watches (s : State) (k : Nat) (a : Byte) (ps : PortSet) :
    (s.createEntry k a ps).watches = s.watches := rfl
@[simp] theorem State.createEntry_routing (s : State) (k : Nat) (a : Byte) (ps : PortSet) :
    (s.createEntry k a ps).routing = s.routing := rfl
@[simp] theorem State.createEntry_ports (s : State) (k : Nat) (a : Byte) (ps : PortSet) :
    (s.createEntry k a ps).ports = s.ports := rfl
@[simp] theorem State.createEntry_races (s : State) (k : Nat) (a : Byte) (ps : PortSet) :
    (s.createEntry k a ps).races = s.races := rfl
@[simp] theorem State.createEntry_pending (s : State) (k : Nat) (a : Byte) (ps : PortSet) :
    (s.createEntry k a ps).pending = s.pending := rfl

@[simp] theorem State.freeEntry_run (s : State) (k : Nat) : (s.freeEntry k).run = s.run := rfl
@[simp] theorem State.freeEntry_loader (s : State) (k : Nat) : (s.freeEntry k).loader = s.loader := rfl
@[simp] theorem State.freeEntry_line (s : State) (k : Nat) : (s.freeEntry k).line = s.line := rfl
@[simp] theorem State.freeEntry_watches (s : State) (k : Nat) : (s.freeEntry k).watches = s.watches := rfl
@[simp] theorem State.freeEntry_routing (s : State) (k : Nat) : (s.freeEntry k).routing = s.routing := rfl
@[simp] theorem State.freeEntry_ports (s : State) (k : Nat) : (s.freeEntry k).ports = s.ports := rfl
@[simp] theorem State.freeEntry_races (s : State) (k : Nat) : (s.freeEntry k).races = s.races := rfl
@[simp] theorem State.freeEntry_pending (s : State) (k : Nat) : (s.freeEntry k).pending = s.pending := rfl

@[simp] theorem State.changeState_run (s : State) (k : Nat) (st : StationState) :
    (s.changeState k st).run = s.run := by
  unfold State.changeState; split
  · rfl
  · split <;> rfl
@[simp] theorem State.changeState_loader (s : State) (k : Nat) (st : StationState) :
    (s.changeState k st).loader = s.loader := by
  unfold State.changeState; split
  · rfl
  · split <;> rfl
@[simp] theorem State.changeState_line (s : State) (k : Nat) (st : StationState) :
    (s.changeState k st).line = s.line := by
  unfold State.changeState; split
  · rfl
  · split <;> rfl
@[simp] theorem State.changeState_exchange (s : State) (k : Nat) (st : StationState) :
    (s.changeState k st).exchange = s.exchange := by
  unfold State.changeState; split
  · rfl
  · split <;> rfl
@[simp] theorem State.changeState_arbiter (s : State) (k : Nat) (st : StationState) :
    (s.changeState k st).arbiter = s.arbiter := by
  unfold State.changeState; split
  · rfl
  · split <;> rfl
@[simp] theorem State.changeState_watches (s : State) (k : Nat) (st : StationState) :
    (s.changeState k st).watches = s.watches := by
  unfold State.changeState; split
  · rfl
  · split <;> rfl
@[simp] theorem State.changeState_routing (s : State) (k : Nat) (st : StationState) :
    (s.changeState k st).routing = s.routing := by
  unfold State.changeState; split
  · rfl
  · split <;> rfl
@[simp] theorem State.changeState_races (s : State) (k : Nat) (st : StationState) :
    (s.changeState k st).races = s.races := by
  unfold State.changeState; split
  · rfl
  · split <;> rfl
@[simp] theorem State.changeState_pending (s : State) (k : Nat) (st : StationState) :
    (s.changeState k st).pending = s.pending := by
  unfold State.changeState; split
  · rfl
  · split <;> rfl

@[simp] theorem State.elapse_run (s : State) (n : Nat) : (s.elapse n).run = s.run := rfl
@[simp] theorem State.elapse_loader (s : State) (n : Nat) : (s.elapse n).loader = s.loader := rfl
@[simp] theorem State.elapse_table (s : State) (n : Nat) : (s.elapse n).table = s.table := rfl
@[simp] theorem State.elapse_arbiter (s : State) (n : Nat) : (s.elapse n).arbiter = s.arbiter := rfl
@[simp] theorem State.elapse_watches (s : State) (n : Nat) : (s.elapse n).watches = s.watches := rfl
@[simp] theorem State.elapse_routing (s : State) (n : Nat) : (s.elapse n).routing = s.routing := rfl
@[simp] theorem State.elapse_ports (s : State) (n : Nat) : (s.elapse n).ports = s.ports := rfl
@[simp] theorem State.elapse_races (s : State) (n : Nat) : (s.elapse n).races = s.races := rfl
@[simp] theorem State.elapse_pending (s : State) (n : Nat) : (s.elapse n).pending = s.pending := rfl

@[simp] theorem State.clearChanged_run (s : State) (p : Port) : (s.clearChanged p).run = s.run := rfl
@[simp] theorem State.clearChanged_loader (s : State) (p : Port) : (s.clearChanged p).loader = s.loader := rfl
@[simp] theorem State.clearChanged_line (s : State) (p : Port) : (s.clearChanged p).line = s.line := rfl
@[simp] theorem State.clearChanged_exchange (s : State) (p : Port) : (s.clearChanged p).exchange = s.exchange := rfl
@[simp] theorem State.clearChanged_arbiter (s : State) (p : Port) : (s.clearChanged p).arbiter = s.arbiter := rfl
@[simp] theorem State.clearChanged_watches (s : State) (p : Port) : (s.clearChanged p).watches = s.watches := rfl
@[simp] theorem State.clearChanged_routing (s : State) (p : Port) : (s.clearChanged p).routing = s.routing := rfl
@[simp] theorem State.clearChanged_ports (s : State) (p : Port) : (s.clearChanged p).ports = s.ports := rfl
@[simp] theorem State.clearChanged_races (s : State) (p : Port) : (s.clearChanged p).races = s.races := rfl
@[simp] theorem State.clearChanged_pending (s : State) (p : Port) : (s.clearChanged p).pending = s.pending := rfl

@[simp] theorem State.startPollTimer_run (s : State) : (s.startPollTimer).run = s.run := rfl
@[simp] theorem State.startPollTimer_loader (s : State) : (s.startPollTimer).loader = s.loader := rfl
@[simp] theorem State.startPollTimer_line (s : State) : (s.startPollTimer).line = s.line := rfl
@[simp] theorem State.startPollTimer_exchange (s : State) : (s.startPollTimer).exchange = s.exchange := rfl
@[simp] theorem State.startPollTimer_table (s : State) : (s.startPollTimer).table = s.table := rfl
@[simp] theorem State.startPollTimer_watches (s : State) : (s.startPollTimer).watches = s.watches := rfl
@[simp] theorem State.startPollTimer_routing (s : State) : (s.startPollTimer).routing = s.routing := rfl
@[simp] theorem State.startPollTimer_ports (s : State) : (s.startPollTimer).ports = s.ports := rfl
@[simp] theorem State.startPollTimer_races (s : State) : (s.startPollTimer).races = s.races := rfl
@[simp] theorem State.startPollTimer_pending (s : State) : (s.startPollTimer).pending = s.pending := rfl

@[simp] theorem State.reloadPollTimer_run (s : State) : (s.reloadPollTimer).run = s.run := rfl
@[simp] theorem State.reloadPollTimer_loader (s : State) : (s.reloadPollTimer).loader = s.loader := rfl
@[simp] theorem State.reloadPollTimer_line (s : State) : (s.reloadPollTimer).line = s.line := rfl
@[simp] theorem State.reloadPollTimer_exchange (s : State) : (s.reloadPollTimer).exchange = s.exchange := rfl
@[simp] theorem State.reloadPollTimer_table (s : State) : (s.reloadPollTimer).table = s.table := rfl
@[simp] theorem State.reloadPollTimer_watches (s : State) : (s.reloadPollTimer).watches = s.watches := rfl
@[simp] theorem State.reloadPollTimer_routing (s : State) : (s.reloadPollTimer).routing = s.routing := rfl
@[simp] theorem State.reloadPollTimer_ports (s : State) : (s.reloadPollTimer).ports = s.ports := rfl
@[simp] theorem State.reloadPollTimer_races (s : State) : (s.reloadPollTimer).races = s.races := rfl
@[simp] theorem State.reloadPollTimer_pending (s : State) : (s.reloadPollTimer).pending = s.pending := rfl

@[simp] theorem State.await_run (s : State) (x : Exchange) : (s.await x).run = s.run := rfl
@[simp] theorem State.await_loader (s : State) (x : Exchange) : (s.await x).loader = s.loader := rfl
@[simp] theorem State.await_line (s : State) (x : Exchange) : (s.await x).line = s.line := rfl
@[simp] theorem State.await_table (s : State) (x : Exchange) : (s.await x).table = s.table := rfl
@[simp] theorem State.await_arbiter (s : State) (x : Exchange) : (s.await x).arbiter = s.arbiter := rfl
@[simp] theorem State.await_watches (s : State) (x : Exchange) : (s.await x).watches = s.watches := rfl
@[simp] theorem State.await_routing (s : State) (x : Exchange) : (s.await x).routing = s.routing := rfl
@[simp] theorem State.await_ports (s : State) (x : Exchange) : (s.await x).ports = s.ports := rfl
@[simp] theorem State.await_races (s : State) (x : Exchange) : (s.await x).races = s.races := rfl
@[simp] theorem State.await_pending (s : State) (x : Exchange) : (s.await x).pending = s.pending := rfl

@[simp] theorem State.retry_run (s : State) (x : Exchange) : (s.retry x).run = s.run := rfl
@[simp] theorem State.retry_loader (s : State) (x : Exchange) : (s.retry x).loader = s.loader := rfl
@[simp] theorem State.retry_table (s : State) (x : Exchange) : (s.retry x).table = s.table := rfl
@[simp] theorem State.retry_arbiter (s : State) (x : Exchange) : (s.retry x).arbiter = s.arbiter := rfl
@[simp] theorem State.retry_watches (s : State) (x : Exchange) : (s.retry x).watches = s.watches := rfl
@[simp] theorem State.retry_routing (s : State) (x : Exchange) : (s.retry x).routing = s.routing := rfl
@[simp] theorem State.retry_ports (s : State) (x : Exchange) : (s.retry x).ports = s.ports := rfl
@[simp] theorem State.retry_races (s : State) (x : Exchange) : (s.retry x).races = s.races := rfl
@[simp] theorem State.retry_pending (s : State) (x : Exchange) : (s.retry x).pending = s.pending := rfl

@[simp] theorem State.duringCharacter_run (s : State) (b : Bool) : (s.duringCharacter b).run = s.run := rfl
@[simp] theorem State.duringCharacter_loader (s : State) (b : Bool) : (s.duringCharacter b).loader = s.loader := rfl
@[simp] theorem State.duringCharacter_table (s : State) (b : Bool) : (s.duringCharacter b).table = s.table := rfl
@[simp] theorem State.duringCharacter_arbiter (s : State) (b : Bool) :
    (s.duringCharacter b).arbiter = s.arbiter := rfl
@[simp] theorem State.duringCharacter_watches (s : State) (b : Bool) :
    (s.duringCharacter b).watches = s.watches := rfl
@[simp] theorem State.duringCharacter_routing (s : State) (b : Bool) :
    (s.duringCharacter b).routing = s.routing := rfl
@[simp] theorem State.duringCharacter_ports (s : State) (b : Bool) : (s.duringCharacter b).ports = s.ports := rfl
@[simp] theorem State.duringCharacter_races (s : State) (b : Bool) : (s.duringCharacter b).races = s.races := rfl
@[simp] theorem State.duringCharacter_pending (s : State) (b : Bool) :
    (s.duringCharacter b).pending = s.pending := rfl

@[simp] theorem State.overrun_run (s : State) : (s.overrun).run = s.run := rfl
@[simp] theorem State.overrun_loader (s : State) : (s.overrun).loader = s.loader := rfl
@[simp] theorem State.overrun_line (s : State) : (s.overrun).line = s.line := rfl
@[simp] theorem State.overrun_exchange (s : State) : (s.overrun).exchange = s.exchange := rfl
@[simp] theorem State.overrun_table (s : State) : (s.overrun).table = s.table := rfl
@[simp] theorem State.overrun_watches (s : State) : (s.overrun).watches = s.watches := rfl
@[simp] theorem State.overrun_routing (s : State) : (s.overrun).routing = s.routing := rfl
@[simp] theorem State.overrun_races (s : State) : (s.overrun).races = s.races := rfl
@[simp] theorem State.overrun_pending (s : State) : (s.overrun).pending = s.pending := rfl

end Sys2Proof.Machine
end

