-- ==== Sys2Proof/Laws/Ops.lean ====
section
/-! SUPPORT. What the shared operations do to what they change: ports, entries, watches. -/

namespace Sys2Proof.Machine

open Sys2Proof

/-! ### Ports -/

theorem State.setPort_port (s : State) (p q : Port) (u : PortUnit) :
    (s.setPort p u).port q = if q = p then u else s.port q := Quad.get_set _ _ _ _

@[simp] theorem State.setPort_port_same (s : State) (p : Port) (u : PortUnit) : (s.setPort p u).port p = u :=
  Quad.get_set_same _ _ _

theorem State.setPort_port_ne (s : State) {p q : Port} (h : q ≠ p) (u : PortUnit) :
    (s.setPort p u).port q = s.port q := Quad.get_set_ne _ h _

theorem State.updPort_port (s : State) (p q : Port) (f : PortUnit → PortUnit) :
    (s.updPort p f).port q = if q = p then f (s.port p) else s.port q := Quad.get_set _ _ _ _

@[simp] theorem State.updPort_port_same (s : State) (p : Port) (f : PortUnit → PortUnit) :
    (s.updPort p f).port p = f (s.port p) := Quad.get_set_same _ _ _

theorem State.updPort_port_ne (s : State) {p q : Port} (h : q ≠ p) (f : PortUnit → PortUnit) :
    (s.updPort p f).port q = s.port q := Quad.get_set_ne _ h _

@[simp] theorem State.updPorts_port (s : State) (f : Port → PortUnit → PortUnit) (p : Port) :
    (s.updPorts f).port p = f p (s.port p) := Quad.get_ofFn _ _

@[simp] theorem State.notice_port (s : State) (ports : PortSet) (f : Sticky → Sticky) (p : Port) :
    (s.notice ports f).port p
      = if ports.get p then { s.port p with sticky := f (s.port p).sticky } else s.port p :=
  Quad.get_ofFn _ _

/-- A change of one port follows another of the same port as one change. -/
theorem State.updPort_updPort (s : State) (p : Port) (f g : PortUnit → PortUnit) :
    (s.updPort p f).updPort p g = s.updPort p fun u => g (f u) := by
  simp only [State.updPort, State.setPort, State.port, Quad.get_set_same, Quad.set_set]

/-- A change of a port that gives back what it held is no change. -/
theorem State.updPort_eq_self (s : State) (p : Port) (f : PortUnit → PortUnit) (h : f (s.port p) = s.port p) :
    s.updPort p f = s := by
  show ({ s with ports := s.ports.set p (f (s.port p)) } : State) = s
  rw [h]
  show ({ s with ports := s.ports.set p (s.ports.get p) } : State) = s
  rw [Quad.set_get]

/-- Two states that agree on every port and every other field are the same. -/
theorem State.ext_ports {s t : State} (h : ∀ p, s.port p = t.port p)
    (h' : { s with ports := t.ports } = t) : s = t := by
  have hp : s.ports = t.ports := Quad.ext_get h
  rw [← h', ← hp]

@[simp] theorem State.send_port_link (s : State) (p : Port) (w : Word) :
    ((s.send p w).port p).link = { (s.port p).link with sent := some w } := by
  simp [State.send]

/-! ### Entries -/

theorem State.setEntry_entry (s : State) (k j : Nat) (e : Option Entry) (h : k < s.table.length) :
    (s.setEntry k e).entry j = if j = k then e else s.entry j := by
  simp only [State.entry, State.setEntry, List.getD_eq_getElem?_getD, List.getElem?_set]
  by_cases hk : k = j
  · subst hk; simp [h]
  · simp [hk, Ne.symm hk]

@[simp] theorem State.setEntry_table_length (s : State) (k : Nat) (e : Option Entry) :
    (s.setEntry k e).table.length = s.table.length := by simp [State.setEntry]

@[simp] theorem State.updEntry_table_length (s : State) (k : Nat) (f : Entry → Entry) :
    (s.updEntry k f).table.length = s.table.length := by
  unfold State.updEntry; split <;> simp

/-! ### Watches -/

theorem State.setWatch_watch (s : State) (p q : Port) (k j : WatchNo) (w : Watch) :
    (s.setWatch p k w).watch q j = if q = p ∧ j = k then w else s.watch q j := by
  simp only [State.watch, State.setWatch, Quad.get_set]
  by_cases hq : q = p
  · subst hq; by_cases hj : j = k <;> simp [Quad.get_set, hj]
  · simp [hq]

@[simp] theorem State.breakWatches_watch (s : State) (hit : Cover → Bool) (c : BreakCause)
    (o : Option (Port × WatchNo)) (p : Port) (k : WatchNo) :
    (s.breakWatches hit c o).watch p k
      = if o == some (p, k) then s.watch p k else (s.watch p k).breakBy hit c := by
  simp only [State.breakWatches, State.watch, Quad.get_ofFn]

end Sys2Proof.Machine
end

