-- ==== Sys2Proof/Laws/Exchange.lean ====
section
/-! SUPPORT. What the Engine's decisions, the table's look-up and the Arbiter's choice do in their plain cases, and the
length of a byte on the configuration bus. -/

namespace Sys2Proof.Machine

open Sys2Proof

/-! ### Attempts and frame reports -/

/-- A failed attempt that is not the last, on a line that has not stood idle for the gap, waits in RETRY_GAP (R58-R60). -/
theorem State.failAttempt_gap (s : State) (x : Exchange) (f : Failure)
    (h : x.attempt < 1 + s.loader.params.retryLimit) (hi : s.line.idle ≠ Config.frameGap) :
    s.failAttempt x f = { s with exchange := some { x with
      phase := .retryGap, lastFailure := some f, replyTimer := none, buffer := [], nextIndex := 0 } } := by
  simp [State.failAttempt, h, hi]

/-- The last failed attempt ends the exchange (R59). -/
theorem State.failAttempt_last (s : State) (x : Exchange) (f : Failure)
    (h : 1 + s.loader.params.retryLimit ≤ x.attempt) :
    s.failAttempt x f = s.endExchange
      { x with lastFailure := some f, replyTimer := none, buffer := [], nextIndex := 0 } { status := f.outcome } := by
  simp [State.failAttempt, Nat.not_lt.mpr h]

/-- Outside RECEIVING a report is discarded (R61). -/
theorem State.frameEnded_elsewhere (s : State) (report : FrameReport)
    (h : ∀ x, s.exchange = some x → x.phase ≠ .receiving) : s.frameEnded report = s := by
  unfold State.frameEnded
  cases hx : s.exchange with
  | none => rfl
  | some x => simp [h x hx]

/-- In RECEIVING each report decides the attempt (R56, R57). -/
theorem State.frameEnded_receiving (s : State) (x : Exchange) (report : FrameReport) (hx : s.exchange = some x)
    (h : x.phase = .receiving) : s.frameEnded report = match report with
      | .garbled _ => s.failAttempt x .garbled
      | .ignored => s.await x
      | .malformed _ => s.failAttempt x .protocol
      | .valid source reply => s.takeValid x source reply := by
  cases report <;> simp only [State.frameEnded, hx, h, if_true]

/-- FRAME BEGUN leaves the line as it is (R55, R61). -/
@[simp] theorem State.frameBegun_line (s : State) : s.frameBegun.line = s.line := by
  unfold State.frameBegun
  split
  · rfl
  · split <;> rfl

/-- FRAME BEGUN leaves the line parameters as they are. -/
@[simp] theorem State.frameBegun_loader (s : State) : s.frameBegun.loader = s.loader := by
  unfold State.frameBegun
  split
  · rfl
  · split <;> rfl

/-- A character that shows no cause leaves the receiver gathering, and nothing more (R6). -/
theorem State.takeCharacter_good (s : State) (data : Byte) (fault : Bool) (h : s.line.rx.causeOf data fault = none) :
    s.takeCharacter data fault
      = (if s.line.rx = .hunting then s.frameBegun else s).setRx (s.line.rx.extended data) := by
  simp only [State.takeCharacter, h]

/-! ### The table -/

/-- The slot found for an address is in use and holds it (R27). -/
theorem State.slotOf_spec (s : State) {a : Byte} {k : Nat} (h : s.slotOf a = some k) :
    ∃ e, s.entry k = some e ∧ e.address = a := by
  rw [State.slotOf, List.findIdx?_eq_some_iff_getElem] at h
  obtain ⟨hk, he, -⟩ := h
  rw [State.entry, List.getD_eq_getElem _ _ hk]
  cases ho : s.table[k] with
  | none => simp [ho] at he
  | some e => exact ⟨e, rfl, by simpa [ho] using he⟩

/-- The entry found for an address holds it (R27). -/
theorem State.entryOf_spec (s : State) {a : Byte} {e : Entry} (h : s.entryOf a = some e) :
    ∃ k, s.slotOf a = some k ∧ s.entry k = some e ∧ e.address = a := by
  unfold State.entryOf at h
  cases hk : s.slotOf a with
  | none => simp [hk] at h
  | some k =>
    rw [hk] at h
    obtain ⟨f, hf, ha⟩ := s.slotOf_spec hk
    cases hf.symm.trans h
    exact ⟨k, rfl, h, ha⟩

/-! ### The choice -/

/-- A port with nothing queued is not eligible (R87). -/
theorem State.eligible_of_empty (s : State) (p : Port) (h : (s.port p).queue = []) : s.eligible p = false := by
  simp [State.eligible, h]

/-- With no port eligible the search finds none (R88). -/
theorem rotate_none (weight : Port → Nat) (n : Nat) (p : Port) (u : Nat) :
    rotate (fun _ => false) weight n p u = none := by
  induction n generalizing p u with
  | zero => rfl
  | succ n ih => simp [rotate, ih]

/-- With no port eligible the ports start nothing, and P and u stay (R88). -/
theorem State.choosePort_none (s : State) (h : ∀ p, s.eligible p = false) : s.choosePort = (s, false) := by
  have h' : s.eligible = fun _ => false := funext h
  simp [State.choosePort, h', rotate_none]

/-! ### The configuration bus -/

/-- A byte takes nine clock pulses (R183). -/
@[simp] theorem busByte_length (sender receiver : BusSide) (b : Byte) (acked : Bool) :
    (busByte sender receiver b acked).length = 9 := rfl

end Sys2Proof.Machine
end

