-- ==== Sys2Proof/Laws/Submit.lean ====
section
/-! SUPPORT. A record submitted word by word on SUBMIT is the commit of the record (R143), and settling a state in which
nothing stands ready changes nothing. -/

namespace Sys2Proof.Machine

open Sys2Proof

/-- Nothing stands ready: no port has a local request that may execute, and no choice is called for or could be made. -/
theorem State.settle_of_quiet (s : State) (call : Bool) (hready : ∀ p, s.localReady p = false)
    (hcall : call = false ∨ s.exchange.isSome = true) : s.settle call = s := by
  have hdue : s.due call = [] := by
    have hc : (call && s.exchange.isNone) = false := by
      rcases hcall with h | h
      · simp [h]
      · cases hx : s.exchange <;> simp_all
    simp [State.due, hready, hc]
  unfold State.settle State.settleFuel
  rw [State.settleAll.eq_def]
  simp [hdue]

/-- What makes a transaction act on SUBMIT. -/
theorem State.acts_submit_iff (s : State) (p : Port) :
    s.acts p .submit = true ↔ (s.port p).link.selected = true ∧ (s.port p).link.channel = some .submit
      ∧ (s.port p).link.tainted = false ∧ s.run = .running := by
  simp [State.acts, and_assoc]

/-- The state of a port whose transaction has sent zeros and whose staging buffer holds `ws`. -/
def State.staged (s : State) (p : Port) (ws : List Word) : State :=
  s.updPort p fun u => { u with staging := ws, link := { u.link with sent := some 0 } }

theorem State.staged_acts (s : State) (p : Port) (ws : List Word) (h : s.acts p .submit = true) :
    (s.staged p ws).acts p .submit = true := by
  rw [State.acts_submit_iff] at h ⊢
  simpa [State.staged] using h

theorem State.send_eq_staged (s : State) (p : Port) : s.send p 0 = s.staged p (s.port p).staging := by
  simp only [State.send, State.staged, State.updPort, State.setPort]

theorem State.staged_staged (s : State) (p : Port) (a b : List Word) : (s.staged p a).staged p b = s.staged p b := by
  simp only [State.staged, State.updPort_updPort]

/-- A word that does not complete its record only joins the staging buffer (R143). -/
theorem State.submitWord_staged (s : State) (p : Port) (header : Word) (body : List Word) (w : Word)
    (hacts : s.acts p .submit = true) (hlen : body.length + 2 ≠ takenLength header) :
    (s.staged p (header :: body)).submitWord p w = s.staged p (header :: (body ++ [w])) := by
  unfold State.submitWord
  rw [if_pos (s.staged_acts p _ hacts), State.send_eq_staged, State.staged_staged]
  have hst : ((s.staged p (header :: body)).port p).staging = header :: body := by simp [State.staged]
  rw [hst]
  unfold State.stage
  rw [show ((s.staged p (header :: body)).port p).staging ++ [w] = header :: (body ++ [w]) by rw [hst]; rfl]
  have hne : (header :: (body ++ [w])).length ≠ takenLength header := by
    simpa [Nat.add_assoc] using hlen
  simp only [hne, if_false]
  simp only [State.staged, State.updPort_updPort]

/-- The word that completes a record commits it (R143). -/
theorem State.submitWord_commits (s : State) (p : Port) (header : Word) (body : List Word) (w : Word)
    (hacts : s.acts p .submit = true) (hlen : body.length + 2 = takenLength header) :
    (s.staged p (header :: body)).submitWord p w
      = ((s.staged p []).commit p ⟨header, body ++ [w]⟩).1.settle
          ((s.staged p []).commit p ⟨header, body ++ [w]⟩).2 := by
  unfold State.submitWord
  rw [if_pos (s.staged_acts p _ hacts), State.send_eq_staged, State.staged_staged]
  have hst : ((s.staged p (header :: body)).port p).staging = header :: body := by simp [State.staged]
  rw [hst]
  unfold State.stage
  rw [show ((s.staged p (header :: body)).port p).staging ++ [w] = header :: (body ++ [w]) by rw [hst]; rfl]
  have heq : (header :: (body ++ [w])).length = takenLength header := by
    simpa [Nat.add_assoc] using hlen
  simp only [heq, if_true]
  rw [show (s.staged p (header :: body)).updPort p (fun x => { x with staging := [] }) = s.staged p [] by
    simp only [State.staged, State.updPort_updPort]]

theorem takenLength_ge_two (header : Word) : 2 ≤ takenLength header := by
  unfold takenLength
  simp only
  split
  · exact Nat.le_refl 2
  · rename_i h
    simp only [badLengthByte, Bool.or_eq_true, decide_eq_true_eq, not_or, not_lt] at h
    exact h.1

/-- The words behind those already staged, up to the last of the record. -/
theorem State.submitWords_staged (s : State) (p : Port) (header : Word) (hacts : s.acts p .submit = true) :
    ∀ (rest body : List Word), rest ≠ [] → body.length + rest.length + 1 = takenLength header →
      (s.staged p (header :: body)).submitWords p rest
        = ((s.staged p []).commit p ⟨header, body ++ rest⟩).1.settle
            ((s.staged p []).commit p ⟨header, body ++ rest⟩).2
  | [], _, h, _ => absurd rfl h
  | [w], body, _, hlen => by
    show (s.staged p (header :: body)).submitWord p w = _
    exact s.submitWord_commits p header body w hacts (by simpa using hlen)
  | w :: w' :: rest, body, _, hlen => by
    show ((s.staged p (header :: body)).submitWord p w).submitWords p (w' :: rest) = _
    simp only [List.length_cons] at hlen
    rw [s.submitWord_staged p header body w hacts (by omega)]
    rw [State.submitWords_staged s p header hacts (w' :: rest) (body ++ [w]) (by simp)
      (by simp only [List.length_append, List.length_cons, List.length_nil]; omega)]
    simp

/-- A whole record submitted on SUBMIT, from an empty staging buffer: the part sends zeros, the record is committed
(R143, R145), and what the commit leaves ready is taken up. -/
theorem State.submitWords_record (s : State) (p : Port) (header : Word) (body : List Word)
    (hacts : s.acts p .submit = true) (hstaging : (s.port p).staging = [])
    (hlen : body.length + 1 = takenLength header) :
    s.submitWords p (header :: body)
      = ((s.send p 0).commit p ⟨header, body⟩).1.settle ((s.send p 0).commit p ⟨header, body⟩).2 := by
  have hsend : s.send p 0 = s.staged p [] := by rw [State.send_eq_staged, hstaging]
  have htwo := takenLength_ge_two header
  have hbody : body ≠ [] := by intro h; simp [h] at hlen; omega
  have hfirst : s.submitWord p header = s.staged p [header] := by
    unfold State.submitWord
    rw [if_pos hacts, hsend]
    unfold State.stage
    rw [show ((s.staged p []).port p).staging ++ [header] = [header] by simp [State.staged]]
    have hne : ([header] : List Word).length ≠ takenLength header := by
      simp only [List.length_cons, List.length_nil]; omega
    simp only [hne, if_false]
    simp only [State.staged, State.updPort_updPort]
  show (s.submitWord p header).submitWords p body = _
  rw [hfirst, hsend]
  exact s.submitWords_staged p header hacts body [] hbody (by simpa using hlen)

/-- On a channel that may not act, the words of SUBMIT are disregarded (R142). -/
theorem State.submitWord_void (s : State) (p : Port) (w : Word) (h : s.acts p .submit = false) :
    s.submitWord p w = s.voidWord p := by
  simp [State.submitWord, h]

end Sys2Proof.Machine
end

