-- ==== Sys2Proof/Tests/Slice0.lean ====
section
/-! SUPPORT. The package's own tests: the well-formedness checks, the worked values of the spec, and for every statement
with hypotheses a state and operands that meet them. -/

-- The evaluations run one after another: each thread of its own would reserve its own memory.
set_option Elab.async false

namespace Sys2Proof.Tests

open Sys2Proof Sys2Proof.Machine

/-! ### States -/

/-- The state a command leaves. -/
def after (c : Instr) (s : State) : State :=
  match exec c s with
  | .next t => t
  | .fault _ => s
  | .refused _ => s

/-- The part running on an idle line, every port OPEN with 16 credits. -/
def running : State :=
  { State.reset with
    run := .running
    line := ⟨.released, .hunting, 0, false⟩
    arbiter := { Arbiter.reset with pollTimer := some 50 }
    ports := Quad.fill { PortUnit.reset with state := .opened } }

def loading : State := { State.reset with run := .loading }

def restarting : State := { running with run := .restarting }

/-- A transaction of port p on a channel. -/
def chan (s : State) (p : Port) (c : Channel) : State :=
  s.updPort p fun u => { u with link := ⟨true, false, some c, false, none⟩ }

/-- Port p in a state. -/
def having (s : State) (p : Port) (st : PortState) : State := s.updPort p fun u => { u with state := st }

def entry (a : Byte) (state : StationState) (ports : PortSet) (toggle : Option Bool) (countdown : Nat) : Entry :=
  { newEntry a ports with state := state, toggle := toggle, highest := 100, countdown := countdown, capable := true }

/-- Four stations: 5 ONLINE and 6 SUSPECT with port 0, 7 OFFLINE with port 1, 8 PROBING with ports 0 and 1. -/
def table : List (Option Entry) :=
  [some (entry 5 .online (PortSet.single 0) (some false) 0), some (entry 6 .suspect (PortSet.single 0) none 0),
    some (entry 7 .offline (PortSet.single 1) none 1), some (entry 8 .probing ⟨true, true, false, false⟩ none 0)]
    ++ List.replicate 28 none

/-- The running part with those stations and an ARMED watch of port 0, slot 1, on points 10 to 13 of station 5. -/
def busy : State :=
  { running with
    table := table
    watches := Quad.set running.watches 0 (Quad.set (Quad.fill Watch.emptySlot) 1 (armedWatch 1 5 10 4 true)) }

/-- Port 0 may submit. -/
def turn : State := chan busy 0 .submit

/-- A header of length n, slot 1. -/
def head (n : Byte) : Header := { tag := 9, length := n, slot := 1 }

/-- An exchange of port 0 with station 5 in a phase. -/
def exchangeOf (kind : ExchangeKind) (phase : Phase) (timer hold : Option Nat) : Exchange :=
  { freshExchange with
    origin := .port 0, kind := kind, slot := some 0, address := 5, frame := readFrame 5 10 4, phase := phase
    replyTimer := timer, holdoffTimer := hold, first := 10, count := 4 }

/-- A line request of port 0 in flight, its exchange in a phase. -/
def flying (kind : ExchangeKind) (phase : Phase) (timer hold : Option Nat) : State :=
  { busy with exchange := some (exchangeOf kind phase timer hold) }.updPort 0 fun u =>
    { u with inFlight := some ⟨headerWord reqRead (head 2), [lineWord 5 10 4]⟩, credits := 15 }

theorem localTurn_of {s : State} {p : Port} (h : s.acts p .submit = true ∧ (s.port p).staging = []
    ∧ (s.port p).state.admits = true ∧ (s.port p).credits ≠ 0 ∧ (s.port p).queue = [] ∧ (s.port p).headMark = .none
    ∧ (s.port p).inFlight = none ∧ ∀ q, s.localReady q = false) : s.LocalTurn p :=
  let ⟨a, b, c, d, e, f, g, q⟩ := h
  ⟨⟨a, b⟩, ⟨c, d⟩, ⟨e, f, g⟩, q⟩

theorem lineTurn_of {s : State} {p : Port} (h : s.LocalTurn p) (h' : (∀ q, (s.port q).queue = []) ∧ s.exchange = none
    ∧ s.arbiter.serviceList = [] ∧ s.arbiter.cycleOpen = false ∧ ∀ q, 1 ≤ s.loader.params.weights.get q) :
    s.LineTurn p :=
  let ⟨a, b, c, d, e⟩ := h'
  ⟨h.submitting, h.accepting, h.unoccupied, a, b, c, d, e⟩

theorem nothingWaits_of {s : State} (h : (∀ q, (s.port q).queue = []) ∧ s.arbiter.serviceList = []
    ∧ s.arbiter.cycleOpen = false) : s.NothingWaits := ⟨h.1, h.2.1, h.2.2⟩

theorem turn_localTurn : turn.LocalTurn 0 := localTurn_of (by decide +kernel)

theorem turn_lineTurn : turn.LineTurn 0 := lineTurn_of turn_localTurn (by decide +kernel)

/-! ### Well-formedness: an ill-formed term for each check -/

theorem test_wf_refuses_a_short_record : Instr.wf (.write 0 (head 3) 5 0 1 []) = false := by decide
theorem test_wf_refuses_a_long_record : Instr.wf (.mark 0 (head 2) [0]) = false := by decide
theorem test_wf_refuses_an_assigned_kind : Instr.wf (.unassignedKind 0 14 (head 2) [0]) = false := by decide
theorem test_wf_refuses_a_clear_word : Instr.wf (.invalidControlOperation 0 0x05000000) = false := by decide
theorem test_wf_refuses_a_65th_byte : Instr.wf (.loadEnd ⟨0, true, true, true, List.replicate 65 0⟩) = false := by
  decide +kernel
theorem test_wf_takes_a_write : Instr.wf (.write 0 (head 3) 5 0 2 [0x00010002]) = true := by decide
theorem test_wf_takes_kind_zero : Instr.wf (.unassignedKind 0 0 (head 0) [0]) = true := by decide
theorem test_no_word_spells_a_command : decodeTableWord 8 5 = none := rfl

/-! ### Values that the spec works out -/

theorem test_check_of_no_bytes : crc16 [] = 0xFFFF#16 := by decide
theorem test_check_of_123456789 : crc16 [0x31, 0x32, 0x33, 0x34, 0x35, 0x36, 0x37, 0x38, 0x39] = 0x29B1#16 := by
  decide +kernel
theorem test_probe_of_station_44 : pingFrame 44 ⟨false, false⟩ = [0xC5, 0x2C, 0xF0, 0x01, 0x00, 0x2C, 0xDF] := by
  decide +kernel
theorem test_status_word_while_loading : loading.statusWord 3 = 0x203FC000#32 := by decide +kernel

/-- The image of the defaults with one pre-attach entry, station 44 for ports 0 and 1, up to that entry. -/
def imageFields : List Byte :=
  [0x3C, 1, 0x01, 0xB8, 2, 3, 50, 1, 10, 20, 0x00, 0xDC, 1, 1, 1, 1, 0x0F, 0, 0, 0, 44, 3]

def imageBytes : List Byte := imageFields ++ List.replicate 40 0 ++ [0xC6, 0xA4]

/-- The bits of some bytes taken into a check. -/
def crcOn (crc : Half) (bytes : List Byte) : Half :=
  (bytes.flatMap fun b => (dataBits b).reverse).foldl crcBit crc

theorem crc16_append (a b : List Byte) : crc16 (a ++ b) = crcOn (crc16 a) b := by
  simp [crc16, crcOn, List.flatMap_append, List.foldl_append]

theorem crcOn_append (c : Half) (a b : List Byte) : crcOn c (a ++ b) = crcOn (crcOn c a) b := by
  simp [crcOn, List.flatMap_append, List.foldl_append]

theorem crc_of_the_image : crc16 (imageBytes.take 62) = 0xC6A4#16 := by
  have h : imageBytes.take 62 = imageFields ++ (List.replicate 20 0 ++ List.replicate 20 0) := by decide
  have h1 : crc16 imageFields = 57602#16 := by decide +kernel
  have h2 : crcOn 57602#16 (List.replicate 20 0) = 39068#16 := by decide +kernel
  have h3 : crcOn 39068#16 (List.replicate 20 0) = 0xC6A4#16 := by decide +kernel
  rw [h, crc16_append, crcOn_append, h1, h2, h3]

theorem test_image_of_the_defaults_is_loaded :
    judge (.bytes imageBytes) = ⟨.loaded, Config.defaults, [(44, ⟨true, true, false, false⟩)]⟩ := by
  have h0 : imageBytes.getD 0 0 = Config.formatMark := by decide
  have h1 : imageCheck imageBytes = 0xC6A4#16 := by decide
  simp only [judge, h0, crc_of_the_image, h1, ne_eq, not_true_eq_false, if_false]
  decide +kernel

/-- Nine looks that find the line low free the bus, and 64 bytes are read; ten do not, nor does a byte not
acknowledged. -/
theorem test_no_memory_gives_the_defaults :
    (readMemory ⟨9, true, true, true, imageBytes⟩).2 = .bytes imageBytes
      ∧ judge (readMemory ⟨10, true, true, true, imageBytes⟩).2 = .defaulted .defaultedAbsent
      ∧ judge (readMemory ⟨0, true, false, true, imageBytes⟩).2 = .defaulted .defaultedAbsent := by decide +kernel

theorem test_wrong_mark_and_wrong_check :
    judge (readMemory ⟨0, true, true, true, []⟩).2 = .defaulted .defaultedFormat
      ∧ judge (.bytes (imageBytes.take 62 ++ [0, 0])) = .defaulted .defaultedCheck := by
  refine ⟨by decide +kernel, ?_⟩
  have h0 : (imageBytes.take 62 ++ [0, 0]).getD 0 0 = Config.formatMark := by decide
  have h1 : (imageBytes.take 62 ++ [0, 0]).take 62 = imageBytes.take 62 := by decide
  have h2 : imageCheck (imageBytes.take 62 ++ [0, 0]) = 0 := by decide
  simp only [judge, h0, h1, h2, crc_of_the_image]
  decide

/-- A level of CFGSDA taken at a clock pulse of a byte. -/
def isPulse : BusOp → Bool
  | .pulse _ _ => true
  | _ => false

/-- The read of 64 bytes takes 603 clock pulses (R184); the first byte is 0x50 with the write direction; a memory that does
not acknowledge it is left after nine. -/
theorem test_bus :
    ((readMemory ⟨1, true, true, true, imageBytes⟩).1.filter isPulse).length = 603
      ∧ deviceByte false = 0xA0#8 ∧ deviceByte true = 0xA1#8
      ∧ (readMemory ⟨1, false, true, true, imageBytes⟩).1
        = [.look false, .releasedPulse, .look true, .stop, .start, .pulse .loader true, .pulse .loader false,
          .pulse .loader true, .pulse .loader false, .pulse .loader false, .pulse .loader false, .pulse .loader false,
          .pulse .loader false, .pulse .memory true, .stop]
      ∧ (readMemory ⟨10, true, true, true, imageBytes⟩).1.length = 19 := by decide +kernel

/-- A retry limit of 9 takes its default and a hold-off of 4095 its value; station 5 named twice is merged. -/
theorem test_settled_fields :
    let image := (imageFields.set 4 9).set 10 0x0F |>.set 11 0xFF
    let j := settleImage (image ++ [44, 0x18] ++ List.replicate 40 0)
    (j.result, j.params.retryLimit, j.params.holdoff) = (.adjusted, 2, 4095)
      ∧ settlePreAttach (Quad.fill true) [(5, PortSet.single 0), (5, PortSet.single 1), (0, PortSet.empty)]
        = ([(5, ⟨true, true, false, false⟩)], true) := by dsimp only; decide +kernel

/-- Stations 9 and 5 are kept in the order of the image, each with the union of its masked sets; 201 and an entry of a port
that does not open are dropped. -/
theorem test_kept_entries :
    settlePreAttach ⟨true, true, true, false⟩ [(201, PortSet.single 0), (7, PortSet.single 3), (9, PortSet.single 0),
        (5, PortSet.single 1), (9, ⟨false, false, true, true⟩)]
      = ([(9, ⟨true, false, true, false⟩), (5, PortSet.single 1)], true) := by decide +kernel

/-! ### The statements' hypotheses are met: the queue, start-up, transactions -/

theorem test_step_front : step { running with pending := [.statusRead 0 true] } = exec (.statusRead 0 true) running := rfl

/-- Waiting, with its exchange in SENDING, at the idle counts 42 and 43; and a part that does not run. -/
theorem test_empty_queue :
    let w (n : Nat) : State :=
      { flying .read .sending none none with line := ⟨.waiting (readFrame 5 10 4), .hunting, n, false⟩ }
    ((w 42).pending = [] ∧ (w 42).run = .running
        ∧ (w 42).exchange.map (fun x : Exchange => (x.phase, x.replyTimer, x.holdoffTimer)) = some (.sending, none, none))
      ∧ (w 42).bitTime = w 43
      ∧ (w 43).bitTime.line = ⟨.driving (frameBits (readFrame 5 10 4)), .closed, 0, false⟩
      ∧ State.reset.run ≠ .running := by dsimp only; decide +kernel

theorem test_load_start : State.reset.run = .powerOn ∧ running.run ≠ .powerOn
    ∧ (after .loadStart State.reset).run = .loading := by decide +kernel

theorem loading_loadInv : LoadInv loading := fun _ =>
  ⟨by unfold PortUnit.untouched; decide +kernel, rfl, rfl, rfl, rfl, rfl, rfl, rfl, rfl⟩

/-- A load that runs, with no kept entry and with one. -/
theorem test_load_end : loading.run = .loading ∧ (judge (readMemory ⟨0, false, true, true, []⟩).2).kept = []
    ∧ (judge (.bytes imageBytes)).kept = [(44, ⟨true, true, false, false⟩)]
    ∧ (after (.loadEnd ⟨0, false, true, true, []⟩) loading).interruptOutput 0 = false :=
  ⟨rfl, by decide +kernel, by rw [test_image_of_the_defaults_is_loaded], by decide +kernel⟩

theorem test_load_end_invariant : loading.run = .loading ∧ LoadInv loading := ⟨rfl, loading_loadInv⟩

theorem test_warm_restart : busy.run = .running ∧ loading.run ≠ .running
    ∧ (after .warmRestart busy).arbiter.serviceList = [⟨3, 8, .probe⟩] := by decide +kernel

theorem restarting_nothingWaits : restarting.NothingWaits := nothingWaits_of (by decide +kernel)

/-- A restart that runs with nothing waiting, and with a probe on the list. -/
theorem test_warm_restart_end : restarting.run = .restarting ∧ restarting.NothingWaits ∧ restarting.exchange = none
    ∧ (let s := after .warmRestart busy
      (∀ q, (s.port q).queue = []) ∧ s.exchange = none ∧ s.arbiter.serviceList = [⟨3, 8, .probe⟩]
        ∧ (s.entry 3).isSome = true ∧ (after .warmRestartEnd s).exchange.isSome = true) :=
  ⟨rfl, restarting_nothingWaits, rfl, by dsimp only; decide +kernel⟩

theorem test_transactions :
    (running.port 0).link.selected = false
      ∧ (let s := after (.transactionBegin 0) running
        (s.port 0).link.selected = true ∧ (s.port 0).link.channel = none
          ∧ ((after (.channelOperation 0 5) s).port 0).link.channel = some .control
          ∧ ((after (.channelOperation 0 6) s).port 0).link.channel = some .unassigned) := by dsimp only; decide +kernel

/-- Void: a SUBMIT begun while the load runs, and an unassigned channel byte. -/
theorem test_void : (chan loading 1 .submit).void 1 = true ∧ (chan running 1 .unassigned).void 1 = true
    ∧ Instr.record (.mark 1 (head 2) []) = some (1, [headerWord reqMark (head 2), 0]) := by decide +kernel

/-- A header of length 3 and one word leave a record incomplete; two words of length 2 complete it on a CLOSED port. -/
theorem test_submit_word : turn.acts 0 .submit = true ∧ (∀ q, turn.localReady q = false)
    ∧ (turn.port 0).staging ++ [3] = 3 :: [] ∧ takenLength (3 : Word) = 3
    ∧ (let s := (having turn 0 .closed).updPort 0 fun u => { u with staging := [2] }
      s.acts 0 .submit = true ∧ (s.port 0).state = .closed ∧ (s.port 0).staging ++ [7] = 2 :: [7]
        ∧ takenLength (2 : Word) = 2 ∧ ∀ q, s.localReady q = false)
    ∧ takenLength (1 : Word) = 2 ∧ takenLength (18 : Word) = 18 ∧ takenLength (19 : Word) = 2 := by dsimp only; decide +kernel

/-- A whole MARK on a CLOSED port, without a credit, and behind a queued READ. -/
theorem test_commit : Instr.wf (.mark 0 (head 2) []) = true ∧ turn.Submitting 0 ∧ turn.Quiet
    ∧ ((having turn 0 .closed).port 0).state = .closed
    ∧ ((turn.updPort 0 fun u => { u with credits := 0 }).port 0).credits = 0
    ∧ (let s := turn.updPort 0 fun u => { u with queue := [⟨headerWord reqRead (head 2), [0]⟩], credits := 15 }
      (s.port 0).queue ≠ [] ∧ s.localReady 0 = false
        ∧ ((after (.mark 0 (head 2) []) s).port 0).queue.length = 2) :=
  ⟨by decide +kernel, turn_localTurn.submitting, turn_localTurn.quiet, by decide +kernel⟩

/-- The first and the last word of the two-word record of a MARK, and an empty queue. -/
theorem test_takes :
    let s := (chan running 0 .takeCompletion).updPort 0 fun u =>
      u.place (completionOf ⟨headerWord reqMark (head 2), [0]⟩ .ok 0 0 [])
    let s' := s.updPort 0 fun u => { u with completionPos := 1 }
    s.acts 0 .takeCompletion = true ∧ ((s.port 0).completions.map (·.words.length)) = [2]
      ∧ ((after (.takeCompletion 0) s).port 0).completionPos = 1
      ∧ ((after (.takeCompletion 0) s').port 0).completions = []
      ∧ ((chan running 0 .takeReport).acts 0 .takeReport = true)
      ∧ ((after (.takeReport 0) (chan running 0 .takeReport)).port 0).link.sent = some 0 := by dsimp only; decide +kernel

/-- A read of the status word, and the credit byte at 16 credits, at 16 records, and between. -/
theorem test_status_read : (chan busy 2 .status).acts 2 .status = true ∧ (chan loading 2 .status).acts 2 .status = true
    ∧ creditByte 16 0 = 0xFF#8 ∧ creditByte 0 16 = 0xFE#8 ∧ creditByte 15 1 = 0xF1#8 := by decide +kernel

/-! ### Control operations -/

theorem test_control_acts : (chan busy 0 .control).acts 0 .control = true
    ∧ ((chan busy 0 .control).port 0).state = .opened
    ∧ ((having (chan busy 0 .control) 0 .closed).acts 0 .control = true)
    ∧ ((having (chan busy 0 .control) 0 .dozing).port 0).state = .dozing := by decide +kernel

/-- Operation bytes 0 and 8, and an OPEN of an OPEN port, are no change. -/
theorem test_invalid_control : Instr.wf (.invalidControlOperation 0 0) = true
    ∧ Instr.wf (.invalidControlOperation 0 0x08000000) = true ∧ Instr.wf (.invalidControlOperation 0 0x01000000) = true
    ∧ after (.invalidControlOperation 0 0x01000000) (chan busy 0 .control) = (chan busy 0 .control).send 0 0 := by
  decide +kernel

theorem entry_lt {s : State} (h : s.table.length = 32) {k : Nat} {e : Entry} (he : s.entry k = some e) : k < 32 := by
  rcases Nat.lt_or_ge k 32 with hk | hk
  · exact hk
  · rw [State.entry, List.getD_eq_default _ _ (by omega)] at he
    cases he

/-- TableInv from checks of the 32 slots. -/
theorem tableInv_of {s : State} (hl : s.table.length = 32)
    (h : ∀ k : Fin 32, ∀ e ∈ s.entry k.val, stationAddress e.address = true ∧ PortSet.isEmpty e.attached = false
      ∧ ∀ p, (e.gaps.get p = true → e.attached.get p = true) ∧ (e.changed.get p = true → e.attached.get p = true))
    (hd : ∀ j k : Fin 32, ∀ e ∈ s.entry j.val, ∀ f ∈ s.entry k.val, e.address = f.address → j = k) : TableInv s where
  slots := hl
  address k e he := (h ⟨k, entry_lt hl he⟩ e he).1
  attached k e he := (h ⟨k, entry_lt hl he⟩ e he).2.1
  distinct j k e f hj hk ha :=
    congrArg Fin.val (hd ⟨j, entry_lt hl hj⟩ ⟨k, entry_lt hl hk⟩ e hj f hk ha)
  gaps k e p he := ((h ⟨k, entry_lt hl he⟩ e he).2.2 p).1
  changed k e p he := ((h ⟨k, entry_lt hl he⟩ e he).2.2 p).2

theorem closing_tableInv : TableInv (chan busy 0 .control) :=
  tableInv_of (by decide +kernel) (by decide +kernel) (by decide +kernel)

/-- CLOSE of an OPEN port that is alone on two entries and with another on a third: of three entries of the service list
two stay. -/
theorem test_close : TableInv (chan busy 0 .control) ∧ ((chan busy 0 .control).port 0).state = .opened
    ∧ (let s := chan busy 0 .control
      let t := after (.close 0) { s with
        arbiter := { s.arbiter with serviceList := [⟨3, 8, .probe⟩, ⟨1, 6, .probe⟩, ⟨2, 7, .reprobe⟩] } }
      t.entry 0 = none ∧ t.entry 1 = none ∧ (t.entry 3).isSome = true ∧ (t.port 0).state = .closed
        ∧ t.arbiter.serviceList = [⟨3, 8, .probe⟩, ⟨2, 7, .reprobe⟩]) :=
  ⟨closing_tableInv, by dsimp only; decide +kernel⟩

theorem test_force_and_clear :
    let t := after (.force 0 0xFF) (chan busy 0 .control)
    (t.port 0).sticky = ⟨true, true, true, true, true, true⟩
      ∧ ((after (.clear 0 0x84) t).port 0).sticky = ⟨false, true, true, true, true, false⟩
      ∧ ((after (.mask 0 0x80) t).interruptOutput 0 = true) := by dsimp only; decide +kernel

/-! ### Line requests -/

/-- The start checks of READs, at the values where the clauses meet: the count 129, an address without an entry, the
OFFLINE station, the points up to 101 and up to 100. -/
theorem test_start_checks :
    let r (a : Byte) (first : Half) (count : Byte) : Request := ⟨headerWord reqRead (head 2), [lineWord a first count]⟩
    (r 5 0 129).isLine = true ∧ turn.startCheck 0 (r 5 0 129) = some .badReq
      ∧ turn.startCheck 0 (r 5 65535 1) = some .range ∧ turn.startCheck 0 (r 5 65535 2) = some .badReq
      ∧ turn.startCheck 0 (r 9 0 1) = some .notAttached ∧ turn.startCheck 1 (r 5 0 1) = some .notAttached
      ∧ turn.startCheck 1 (r 7 0 1) = some .offline
      ∧ turn.startCheck 0 (r 5 100 2) = some .range ∧ turn.startCheck 0 (r 5 99 2) = none
      ∧ turn.startCheck 0 ⟨headerWord reqWrite (head 3), [lineWord 0 65534 2, 0]⟩ = none := by dsimp only; decide +kernel

theorem test_rotation :
    rotate (fun p => decide (p = 2)) (fun _ => 1) 5 2 0 = some (2, 0)
      ∧ rotate (fun p => decide (p = 2)) (fun _ => 1) 5 2 1 = some (2, 0)
      ∧ rotate (fun _ => true) (fun _ => 1) 5 3 1 = some (0, 0)
      ∧ rotate (fun _ => false) (fun _ => 1) 5 3 1 = none := by decide +kernel

theorem test_failed_start_check :
    turn.LineTurn 0 ∧ turn.entryOf 9 = none
      ∧ turn.startCheck 0 ⟨headerWord reqRead (head 2), [lineWord 9 0 1]⟩ = some .notAttached
      ∧ (((after (.read 0 (head 2) 9 0 1 []) turn).port 0).completions.map (·.status)) = [.notAttached] :=
  ⟨turn_lineTurn, by decide +kernel⟩

/-- A READ of the PROBING station 8, and a READ while an exchange is in flight, wait. -/
theorem test_waiting_line_requests :
    let s := chan (flying .read .awaiting (some 9) none) 1 .submit
    let waits (t : State) (p : Port) := ((t.port p).queue.map (·.top), (t.port p).credits)
    turn.LineTurn 0 ∧ (turn.entryOf 8).map (·.state) = some .probing
      ∧ waits (after (.read 0 (head 2) 8 0 1 []) turn) 0 = ([8], 15)
      ∧ (after (.read 0 (head 2) 8 0 1 []) turn).exchange = none
      ∧ (s.acts 1 .submit = true ∧ (s.port 1).staging = [] ∧ (s.port 1).state = .opened ∧ (s.port 1).credits = 16
        ∧ (∀ q, s.localReady q = false) ∧ s.exchange.isSome = true)
      ∧ waits (after (.read 1 (head 2) 7 0 1 []) s) 1 = ([7], 15)
      ∧ (after (.read 1 (head 2) 7 0 1 []) s).exchange = s.exchange :=
  ⟨turn_lineTurn, by dsimp only; decide +kernel⟩

theorem test_read :
    turn.LineTurn 0 ∧ turn.slotOf 5 = some 0
      ∧ turn.startCheck 0 ⟨headerWord 1#4 (head 2), [lineWord 5 99 2]⟩ = none
      ∧ (∀ e ∈ turn.entryOf 5, e.state ≠ .probing)
      ∧ (after (.read 0 (head 2) 5 99 2 []) turn).line.tx = .waiting (readFrame 5 99 2) :=
  ⟨turn_lineTurn, by decide +kernel⟩

/-- A WRITE to a station whose toggle is known and to one whose toggle is UNKNOWN, and a broadcast. -/
theorem test_write :
    turn.LineTurn 0 ∧ wholeRecord (headerWord 2#4 (head 3) :: lineWord 5 99 2 :: [0]) = true
      ∧ turn.slotOf 6 = some 1 ∧ (turn.entry 0).map (·.toggle) = some (some false)
      ∧ (turn.entry 1).map (·.toggle) = some none
      ∧ turn.startCheck 0 ⟨headerWord 2#4 (head 3), [lineWord 5 99 2, 0]⟩ = none
      ∧ turn.startCheck 0 ⟨headerWord 2#4 (head 3), [lineWord 6 99 2, 0]⟩ = none
      ∧ Request.lineBad ⟨headerWord 2#4 (head 3), [lineWord 0 65534 2, 0]⟩ = false ∧ turn.slotOf 0 = none
      ∧ (after (.write 0 (head 3) 6 99 2 [0]) turn).arbiter.pairing = some 0 :=
  ⟨turn_lineTurn, by decide +kernel⟩

/-- A CWRITE on an EMPTY slot, on an ARMED slot with points 10 to 14, and with points 10 to 13. -/
theorem test_cwrite :
    turn.LineTurn 0 ∧ wholeRecord (headerWord 3#4 (head 4) :: lineWord 5 10 4 :: [0, 0]) = true
      ∧ turn.startCheck 0 ⟨headerWord 3#4 (head 4), [lineWord 5 10 4, 0, 0]⟩ = none
      ∧ (turn.watch 0 1).cover = some ⟨5, 10, 4⟩ ∧ (turn.watch 0 1).state = .armed ∧ (turn.watch 0 2).state ≠ .armed
      ∧ ((after (.cwrite 0 (head 4) 5 10 4 [0, 0]) turn).watch 0 1).state = .committing
      ∧ (((after (.cwrite 0 (head 4) 5 11 4 [0, 0]) turn).port 0).completions.map (·.status)) = [.mismatch]
      ∧ (((after (.cwrite 0 { head 4 with slot := 2 } 5 10 4 [0, 0]) turn).port 0).completions.map (·.status))
        = [.lost] :=
  ⟨turn_lineTurn, by decide +kernel⟩

/-! ### Local requests -/

/-- A table without room, a free slot, a station joined, and one already attached. -/
theorem test_attach :
    turn.LocalTurn 0 ∧ (head 2).length = 2#8 ∧ turn.arbiter.serviceList = []
      ∧ ({ turn with table := List.replicate 32 (turn.entry 0) }.freeSlot = none)
      ∧ turn.slotOf 200 = none ∧ turn.freeSlot = some 4 ∧ stationAddress 200 = true
      ∧ turn.slotOf 7 = some 2 ∧ (turn.entry 2).map (·.attached.get 0) = some false
      ∧ (turn.entry 0).map (·.attached.get 0) = some true
      ∧ (after (.attach 0 (head 2) 200 []) turn).exchange.isSome = true :=
  ⟨turn_localTurn, by decide +kernel⟩

theorem test_detach :
    turn.LocalTurn 0 ∧ turn.slotOf 9 = none ∧ stationAddress 5 = true
      ∧ (turn.entry 0).map (·.attached) = some (PortSet.single 0)
      ∧ (turn.entry 3).map (·.attached) = some ⟨true, true, false, false⟩
      ∧ (after (.detach 0 (head 2) 5 []) turn).entry 0 = none
      ∧ (after (.detach 0 (head 2) 5 []) turn).watch 0 1 = Watch.emptySlot :=
  ⟨turn_localTurn, by decide +kernel⟩

theorem test_release :
    turn.LocalTurn 0 ∧ Instr.wf (.release 0 (head 3) [0]) = true
      ∧ (((after (.release 0 (head 3) [0]) turn).port 0).completions.map (·.status)) = [.badReq]
      ∧ (after (.release 0 (head 2) []) turn).watch 0 1 = Watch.emptySlot :=
  ⟨turn_localTurn, by decide +kernel⟩

theorem test_filter_mode :
    turn.LocalTurn 0 ∧ ((after (.filterMode 0 (head 2) 3 []) turn).routing.get 0).mode = .all
      ∧ ((after (.filterClearAll 0 (head 2) []) turn).routing.get 0) = Routing.cleared :=
  ⟨turn_localTurn, by decide +kernel⟩

/-- LIST_ADD of a key, of the same key, and of a seventeenth key; LIST_REMOVE. -/
theorem test_filter_list :
    turn.LocalTurn 0 ∧ stationAddress 200 = true ∧ (4095 : Half).toNat ≤ 4095
      ∧ (let key : Key := ⟨200, 4095⟩
        ((after (.filterListAdd 0 (head 2) 200 4095 []) turn).routing.get 0).keys = [key]
          ∧ (Routing.cleared.addKey key).1.addKey key = (⟨.none, [key], 0, Routing.cleared.patterns⟩, .already)
          ∧ ({ Routing.cleared with keys := List.replicate 16 ⟨1, 0⟩ }.addKey key).2 = .tableFull
          ∧ (Routing.cleared.removeKey key).2 = .already) :=
  ⟨turn_localTurn, by dsimp only; decide +kernel⟩

theorem test_filter_hash :
    turn.LocalTurn 0 ∧ hashIndex ⟨1, 0⟩ < 512
      ∧ ((after (.filterHashSet 0 (head 2) 1 0 []) turn).routing.get 0).hash.getLsbD (hashIndex ⟨1, 0⟩) = true
      ∧ (after (.filterHashClear 0 (head 2) 1 0 []) turn).routing = turn.routing :=
  ⟨turn_localTurn, by decide +kernel⟩

/-- A mode of 4, a key of station 201, a group of 4096, and a length of 3. -/
theorem test_bad_filter :
    turn.LocalTurn 0 ∧ Instr.record (.filterMode 0 (head 2) 4 []) = some (0, filterRecord (head 2) 1 4 0 [])
      ∧ Instr.record (.filterListAdd 0 (head 2) 201 0 []) = some (0, filterRecord (head 2) 2 201 0 [])
      ∧ Instr.record (.filterHashSet 0 (head 2) 5 4096 []) = some (0, filterRecord (head 2) 4 5 4096 [])
      ∧ Instr.wf (.filterClearAll 0 (head 3) [0]) = true ∧ Instr.wf (.filterMode 0 (head 2) 4 []) = true
      ∧ (((after (.filterMode 0 (head 2) 4 []) turn).port 0).completions.map (·.status)) = [.badReq] :=
  ⟨turn_localTurn, by decide +kernel⟩

/-- Pattern 3 and pattern 4; a disabled pattern with address 0. -/
theorem test_wakeset :
    turn.LocalTurn 0 ∧ Instr.wf (.wakeset 0 (head 3) 3 true 5 1 2 3 []) = true
      ∧ Instr.wf (.wakeset 0 (head 3) 4 false 0 0 0 0 []) = true
      ∧ ((after (.wakeset 0 (head 3) 3 true 5 1 2 3 []) turn).routing.get 0).patterns.q3 = ⟨true, 5, 1, 2, 3⟩
      ∧ (((after (.wakeset 0 (head 3) 4 false 0 0 0 0 []) turn).port 0).completions.map (·.status)) = [.badReq] :=
  ⟨turn_localTurn, by decide +kernel⟩

theorem test_queries :
    turn.LocalTurn 0 ∧ stationAddress 0 = false ∧ stationAddress 201 = false ∧ turn.entryOf 9 = none
      ∧ (turn.entryOf 5).isSome = true
      ∧ (((after (.queryStation 0 (head 2) 5 []) turn).port 0).completions.map (·.body))
        = [[0x02000064#32, 0x01010001#32]]
      ∧ (((after (.queryLine 0 (head 2) []) turn).port 0).completions.map (·.body.length)) = [4]
      ∧ (((after (.queryWatches 0 (head 2) []) turn).port 0).completions.map (·.body.length)) = [8]
      ∧ (((after (.queryChanges 0 (head 2) []) turn).port 0).completions.map (·.body)) = [[]] :=
  ⟨turn_localTurn, by decide +kernel⟩

theorem test_mark_and_unassigned :
    turn.LocalTurn 0 ∧ Instr.wf (.mark 0 (head 3) [0]) = true ∧ Instr.wf (.unassignedKind 0 15 (head 2) [0]) = true
      ∧ (((after (.mark 0 (head 2) []) turn).port 0).completions.map (·.status)) = [.ok]
      ∧ (((after (.unassignedKind 0 15 (head 2) [0]) turn).port 0).completions.map (·.status)) = [.badReq] :=
  ⟨turn_localTurn, by decide +kernel⟩

/-- ATTACH and DETACH of the addresses 0 and 201 and of a wrong length, and QUERYs of a wrong length. -/
theorem test_bad_local_requests :
    let bad (i : Instr) : Bool := i.wf
      && decide (((after i turn).port 0).completions.map (·.status) = [.badReq])
    turn.LocalTurn 0
      ∧ ((bad (.attach 0 (head 2) 0 []) && bad (.attach 0 (head 2) 201 []) && bad (.attach 0 (head 3) 5 [0])
        && bad (.attach 0 (head 1) 5 []) && bad (.detach 0 (head 2) 0 []) && bad (.detach 0 (head 2) 201 [])
        && bad (.detach 0 (head 3) 5 [0]) && bad (.queryStation 0 (head 3) 5 [0]) && bad (.queryChanges 0 (head 3) [0])
        && bad (.queryWatches 0 (head 0) []) && bad (.queryLine 0 (head 19) [])) = true) :=
  ⟨turn_localTurn, by dsimp only; decide +kernel⟩

/-- The records of FILTERs carry the mode and the number of keys. -/
theorem test_filter_records :
    turn.LocalTurn 0
      ∧ ((after (.filterMode 0 (head 2) 3 []) turn).port 0).completions = [filterDone (head 2) 0 .ok .all 0]
      ∧ ((after (.filterListAdd 0 (head 2) 200 4095 []) turn).port 0).completions
        = [filterDone (head 2) 200 .ok .none 1] :=
  ⟨turn_localTurn, by decide +kernel⟩

/-- HASH_SET in mode HASHED accepts the key. -/
theorem test_hashed_filter :
    let s := turn.setRouting 0 { Routing.cleared with mode := .hashed }
    s.LocalTurn 0 ∧ hashIndex (itemKey 1 15) = hashIndex ⟨1, 0⟩
      ∧ ((after (.filterHashSet 0 (head 2) 1 0 []) s).routing.get 0).accepts 1 ⟨15, 7⟩ = true :=
  ⟨localTurn_of (by decide +kernel), by decide +kernel⟩

/-! ### The field line -/

/-- A WAITING transmitter with an exchange in SENDING at idle counts 0 and 44, and on a line held low. -/
theorem test_transmit_start :
    let s (n : Nat) (low : Bool) : State :=
      { flying .read .sending none none with line := ⟨.waiting (readFrame 5 10 4), .hunting, n, low⟩ }
    (∀ x ∈ (s 0 false).exchange, x.phase = .sending ∧ x.replyTimer = none ∧ x.holdoffTimer = none)
      ∧ (after .transmitStart (s 0 false)).line.driverEnable = true
      ∧ (after .transmitStart (s 44 false)).line.driverEnable = true
      ∧ (after .transmitStart (s 44 true)).line.driverEnable = false := by dsimp only; decide +kernel

/-- A frame driven to its end: an addressed one, a broadcast with a hold-off. -/
theorem test_send_complete :
    let s (kind : ExchangeKind) : State :=
      { flying kind .sending none none with line := ⟨.driving [true], .closed, 0, false⟩ }
    (s .read).loader.params.holdoff ≠ 0
      ∧ (after .sendComplete (s .read)).exchange.map (·.replyTimer) = some (some 440)
      ∧ (after .sendComplete (s .broadcast)).exchange.map (·.holdoffTimer) = some (some 220) := by dsimp only; decide +kernel

/-- A line in HUNTING or with five characters and the last of eight to come; the marker has four ones. -/
theorem test_characters :
    let a := flying .read .awaiting (some 3) none
    let c : State := { flying .read .receiving none none with
      line := ⟨.released, .collecting [0xC5, 240, 5, 14, 0, 1], 3, false⟩ }
    a.line.rx = .hunting ∧ a.line.low = false ∧ characterFault 0xC5 false true = false
      ∧ (after (.characterReceived 0xC5 false true) a).exchange.map (·.phase) = some .receiving
      ∧ (after (.characterReceived 3 false true) c).line.rx = .held [0xC5, 240, 5, 14, 0, 1, 3]
      ∧ after (.characterReceived 1 true true) { running with line := ⟨.released, .closed, 0, false⟩ }
        = { running with line := ⟨.released, .closed, 0, false⟩ }
      ∧ after (.characterReceived 0 false false) { running with line := ⟨.released, .closed, 0, false⟩ }
        = { running with line := ⟨.released, .closed, 0, true⟩ } := by dsimp only; decide +kernel

/-- A line held low from the restart on: the idle count stands at 0 once the part runs, until the line returns high. -/
theorem test_low_from_a_restart :
    let s := after .warmRestartEnd (after (.characterReceived 0 false false) (after .warmRestart running))
    (s.elapse 30).line.idle = 0 ∧ s.line.rx = .hunting ∧ ((after .lineReturnsHigh s).elapse 30).line.idle = 30 := by
  dsimp only; decide +kernel

/-- The causes of a garbled frame, at the values where two meet. -/
theorem test_causes :
    firstCause 0xC5 false = none ∧ firstCause 0xC4 false = some .marker ∧ firstCause 0xC4 true = some .characterFault
      ∧ laterCause 5 67 false = none ∧ laterCause 5 68 false = some .lengthOver67 ∧ laterCause 4 68 false = none
      ∧ laterCause 5 68 true = some .characterFault ∧ running.line.rx = .hunting
      ∧ Receiver.causeOf (.collecting [0xC5, 240, 5, 10]) 68 false = some .lengthOver67
      ∧ Receiver.causeOf (.collecting [0xC5, 240, 5]) 68 false = none
      ∧ Receiver.causeOf (.held [0xC5]) 0 true = some .longFrame := by decide +kernel

/-- A character in DISCARDING, with an exchange in RETRY_GAP, and with a hold-off of 5 and of 30 bit times left. -/
theorem test_discarding :
    let s (phase : Phase) (hold : Option Nat) : State :=
      { flying .read phase none hold with line := ⟨.released, .discarding, 3, false⟩ }
    let left (s : State) := s.exchange.map fun x : Exchange => (x.phase, x.holdoffTimer)
    left (after (.characterReceived 0 true true) (s .retryGap none)) = some (.retryGap, none)
      ∧ (after (.characterReceived 0 true true) (s .retryGap none)).line = ⟨.released, .discarding, 0, false⟩
      ∧ left (after (.characterReceived 0 true true) (s .holdoff (some 5))) = some (.holdoff, some 0)
      ∧ left (after (.characterReceived 0 true true) (s .holdoff (some 30))) = some (.holdoff, some 19) := by
  dsimp only; decide +kernel

/-- A wrong marker, a length of 68, a ninth character, and a low stop bit, each in an attempt that is not the last. -/
theorem test_garbled :
    let r (rx : Receiver) : State :=
      { flying .read .receiving none none with line := ⟨.released, rx, 3, false⟩ }
    let failure (s : State) := s.exchange.map fun x : Exchange => (x.phase, x.lastFailure)
    failure (after (.characterReceived 0xC4 true true) (flying .read .awaiting (some 3) none))
        = some (.retryGap, some .garbled)
      ∧ failure (after (.characterReceived 68 false true) (r (.collecting [0xC5, 240, 5, 14]))) = some (.retryGap, some .garbled)
      ∧ failure (after (.characterReceived 0 false true) (r (.held [0xC5]))) = some (.retryGap, some .garbled)
      ∧ (after (.characterReceived 0 false false) (r (.collecting [0xC5]))).line.low = true
      ∧ ({ running with line := ⟨.released, .discarding, 0, true⟩ } : State).exchange = none
      ∧ (after .lineReturnsHigh { running with line := ⟨.released, .discarding, 0, true⟩ }).line.low = false := by
  dsimp only; decide +kernel

/-- The end of a NOTHING frame from station 5, of the same frame to 239, of one with a wrong check, and of a short one. -/
theorem test_frame_confirmation :
    let good := frameOf 240 5 14 []
    let s (rx : Receiver) : State := { running with line := ⟨.released, rx, 22, false⟩ }
    (s .discarding).line.rx.midFrame = true ∧ running.line.rx.midFrame = false
      ∧ evaluateFrame good = .valid 5 .nothing ∧ evaluateFrame (frameOf 239 5 14 []) = .ignored
      ∧ evaluateFrame (frameOf 240 5 15 []) = .malformed 5 ∧ evaluateFrame (good.take 6 ++ [0]) = .garbled .check
      ∧ (after .frameConfirmation (s (.held good))).line = ⟨.released, .hunting, 23, false⟩ := by dsimp only; decide +kernel

theorem test_frame_reports :
    let s := flying .read .receiving none none
    (s.frameEnded .ignored).exchange.map (·.phase) = some .awaiting ∧ s.line.idle ≠ 44
      ∧ (s.frameEnded (.malformed 5)).exchange.map (·.lastFailure) = some (some .protocol)
      ∧ (s.frameEnded (.valid 6 .nothing)).exchange.map (·.lastFailure) = some (some .protocol)
      ∧ (flying .read .awaiting none none).frameEnded (.garbled .check) = flying .read .awaiting none none := by dsimp only; decide +kernel

/-- Frames from the right station: an ANSWER in a WRITE exchange, an ACCEPT, a PONG in a POLL exchange, a NOTHING; with a
SUSPECT entry the heard claim is made, with the orphan flag it is not. -/
theorem test_valid_replies :
    let s (kind : ExchangeKind) (orphan : Bool) : State :=
      { (flying kind .receiving none none).updEntry 0 ({ · with state := .suspect, failures := 2 }) with
        exchange := some { exchangeOf kind .receiving none none with orphan := orphan } }
    let failure (s : State) := s.exchange.map fun x : Exchange => x.lastFailure
    failure ((s .write false).frameEnded (.valid 5 (.answer 0 [1] false))) = some (some .protocol)
      ∧ failure ((s .poll false).frameEnded (.valid 5 (.pong true 1))) = some (some .protocol)
      ∧ failure ((s .broadcast false).frameEnded (.valid 5 (.refuse .busy))) = some (some .protocol)
      ∧ (((s .write false).frameEnded (.valid 5 (.answer 0 [1] false))).entry 0).map (fun e => (e.state, e.failures))
        = some (.online, 0)
      ∧ (((s .write true).frameEnded (.valid 5 (.answer 0 [1] false))).entry 0).map (·.state) = some .suspect
      ∧ (((s .write false).frameEnded (.valid 5 .accept)).port 0).completions.map (·.status) = [.ok]
      ∧ (((s .ping false).frameEnded (.valid 5 (.pong true 1))).port 0).completions.map (·.status) = [.ok]
      ∧ (((s .poll false).frameEnded (.valid 5 .nothing)).port 0).completions.map (·.status) = [.ok] := by
  dsimp only; decide +kernel

/-- A POLL of station 5 that sent K = 1: a report with T = 0 is new, one with T = 1 a duplicate. -/
theorem test_polled_reports :
    let e := entry 5 .online (PortSet.single 0) (some false) 0
    let x : Exchange := { pollExchange 0 e with phase := .receiving }
    let s : State := { busy with exchange := some x, arbiter := { busy.arbiter with cycleOpen := true, cursor := 31 } }
    let report (t : Bool) : FrameReport := .valid 5 (.report t false [⟨10, 3⟩])
    x.ackSent = some ⟨true, true⟩ ∧ x.kind = .poll ∧ x.purpose = .poll ∧ x.slot = some 0
      ∧ ((s.frameEnded (report false)).entry 0).map (·.ack) = some false
      ∧ ((s.frameEnded (report false)).watch 0 1).cause = .report
      ∧ ((s.frameEnded (report true)).entry 0).map (·.ack) = some true
      ∧ ((s.frameEnded (report true)).watch 0 1).state = .armed := by dsimp only; decide +kernel

/-- A reply timer with 44 and with 43 bit times left on a line idle for 0, and a retry gap. -/
theorem test_retries :
    let s (n : Nat) := flying .read .awaiting (some n) none
    (s 44).line.rx = .hunting ∧ (s 44).line.idle = 0 ∧ (s 44).line.low = false
      ∧ (after .replyTimerExpiry (s 44)).exchange.map (·.attempt) = some 2
      ∧ (after .replyTimerExpiry (s 43)).exchange.map (·.phase) = some .retryGap
      ∧ (after .retryGapEnd (flying .read .retryGap none none)).exchange.map (·.attempt) = some 2
      ∧ running.exchange = none := by dsimp only; decide +kernel

/-- The last attempt of a READ to station 5. -/
def lastAttempt : State :=
  { flying .read .awaiting (some 5) none with exchange := some { exchangeOf .read .awaiting (some 5) none with attempt := 3 } }

theorem test_last_timeout :
    lastAttempt.NothingWaits ∧ lastAttempt.line.rx = .hunting
      ∧ (lastAttempt.entry 0).map (·.state) = some .online
      ∧ ((lastAttempt.port 0).inFlight.isSome = true)
      ∧ (((after .replyTimerExpiry lastAttempt).port 0).completions.map (·.status)) = [.noResponse]
      ∧ ((after .replyTimerExpiry lastAttempt).entry 0).map (·.state) = some .suspect :=
  ⟨nothingWaits_of (by decide +kernel), by decide +kernel⟩

/-- A broadcast of points 13 and 14 in HOLDOFF, which breaks the watch on points 10 to 13. -/
def holding : State :=
  { flying .broadcast .holdoff none (some 5) with
    exchange := some { exchangeOf .broadcast .holdoff none (some 5) with slot := none, first := 13, count := 2 } }

theorem test_holdoff :
    holding.NothingWaits ∧ holding.line.rx = .hunting ∧ (holding.port 0).inFlight.isSome = true
      ∧ ((after .holdoffExpiry holding).watch 0 1).cause = .broadcast
      ∧ (((after .holdoffExpiry holding).port 0).completions.map (·.attempts)) = [1]
      ∧ running.exchange = none :=
  ⟨nothingWaits_of (by decide +kernel), by decide +kernel⟩

/-- The same broadcast at the end of its frame, with a hold-off of 0. -/
theorem test_no_holdoff :
    let s : State := { holding with
      line := ⟨.driving [true], .closed, 0, false⟩
      loader := { holding.loader with params := { holding.loader.params with holdoff := 0 } }
      exchange := holding.exchange.map fun x : Exchange => { x with phase := .sending, holdoffTimer := none } }
    s.exchange.map (fun x : Exchange => (x.phase, x.kind, x.slot, x.attempt)) = some (.sending, .broadcast, none, 1)
      ∧ ((∀ q, (s.port q).queue = []) ∧ s.arbiter.serviceList = [] ∧ s.arbiter.cycleOpen = false)
      ∧ (after .sendComplete s).exchange = none ∧ (after .sendComplete s).line = ⟨.released, .hunting, 0, false⟩
      ∧ ((after .sendComplete s).watch 0 1).cause = .broadcast
      ∧ ((after .sendComplete s).port 0).completions.map (fun c => (c.status, c.attempts)) = [(.ok, 1)] := by
  dsimp only; decide +kernel

/-- How the exchange of a state goes on: its phase, its last failure, the values gathered. -/
def goesOn (s : State) : Option (Phase × Option Failure × Nat) :=
  s.exchange.map fun y : Exchange => (y.phase, y.lastFailure, y.buffer.length)

def reading : State := flying .read .receiving none none

def readX : Exchange := exchangeOf .read .receiving none none

/-- The fragments of a READ of 4 points: a wrong index, five values, three with M = 0, four with M = 1; three with
M = 1 and four with M = 0 are good. -/
theorem test_answers :
    goesOn (reading.takeAnswer readX 1 [1] true) = some (.retryGap, some .protocol, 0)
      ∧ goesOn (reading.takeAnswer readX 0 [1, 2, 3, 4, 5] false) = some (.retryGap, some .protocol, 0)
      ∧ goesOn (reading.takeAnswer readX 0 [1, 2, 3] false) = some (.retryGap, some .protocol, 0)
      ∧ goesOn (reading.takeAnswer readX 0 [1, 2, 3, 4] true) = some (.retryGap, some .protocol, 0)
      ∧ goesOn (reading.takeAnswer readX 0 [1, 2, 3] true) = some (.awaiting, none, 3)
      ∧ (((reading.takeAnswer readX 0 [1, 2, 3, 4] false).port 0).completions.map (·.body))
        = [[0x00010002#32, 0x00030004#32]] := by decide +kernel

/-- A last attempt: a garbled frame and a wrong fragment end it BADREPLY, a BUSY ends it BUSY. -/
theorem test_last_attempts :
    let x : Exchange := { readX with attempt := 3 }
    let s : State := { reading with exchange := some x }
    let statuses (s : State) := (s.port 0).completions.map fun c : Completion => (c.status, c.attempts)
    s.loader.params.retryLimit = 2
      ∧ statuses (s.frameEnded (.garbled .check)) = [(.badReply, 3)]
      ∧ statuses (s.frameEnded (.valid 5 .accept)) = [(.badReply, 3)]
      ∧ statuses (s.takeAnswer x 1 [1] true) = [(.badReply, 3)]
      ∧ statuses (s.takeRefuse x (refuseReason 3)) = [(.busy, 3)]
      ∧ statuses (s.failAttempt x .timeout) = [(.noResponse, 3)] := by dsimp only; decide +kernel

/-- BUSY fails the attempt; an unassigned reason is FAULT. -/
theorem test_refuses :
    goesOn (reading.takeRefuse readX (refuseReason 3)) = some (.retryGap, some .busy, 0)
      ∧ (((reading.takeRefuse readX (refuseReason 0)).port 0).completions.map (·.detail)) = [4] := by decide +kernel

/-- A WRITE of points 13 to 16 of station 5 that ended OK. -/
theorem test_accepted_write :
    let x : Exchange := { exchangeOf .write .receiving none none with toggleSent := some false, first := 13 }
    let s := (flying .write .receiving none none).updPort 0 fun u =>
      { u with inFlight := some ⟨headerWord reqWrite (head 4), [lineWord 5 13 4, 0, 0]⟩ }
    x.origin = .port 0 ∧ x.orphan = false ∧ x.discard = false ∧ x.watchSlot = none
      ∧ (s.port 0).inFlight.map (·.isWrite) = some true
      ∧ ((s.handEnd x { status := .ok }).entry 0).map (·.toggle) = some (some true)
      ∧ ((s.handEnd x { status := .ok }).watch 0 1).cause = .write
      ∧ ((s.handEnd x { status := .ok }).port 0).sticky.broken = true := by dsimp only; decide +kernel

/-- A port's exchange that ends with station 5, slot 1 its own: a CWRITE accepted, a watched READ, a WRITE that failed or
was refused, and a READ with the discard and with the orphan flag. -/
theorem test_ends_of_exchanges :
    let x (kind : ExchangeKind) : Exchange :=
      { exchangeOf kind .receiving none none with toggleSent := some false, watchSlot := some 1 }
    let r (kind : BitVec 4) : Request := ⟨headerWord kind { head 4 with notify := true }, [lineWord 5 10 4, 0, 0]⟩
    let s (kind : BitVec 4) : State := busy.updPort 0 fun u =>
      { u with inFlight := some (r kind), credits := 15, state := .closing }
    let two := (s reqCwrite).setWatch 0 2 (armedWatch 5 5 13 1 true)
    (r reqCwrite).isCwrite = true ∧ (r reqRead).isRead = true
      ∧ (two.handEnd (x .cwriteAsWrite) { status := .ok }).watch 0 1 = Watch.emptySlot
      ∧ ((two.handEnd (x .cwriteAsWrite) { status := .ok }).watch 0 2).cause = .write
      ∧ (two.handEnd (x .cwriteAsWrite) { status := .refused }).watch 0 1 = Watch.emptySlot
      ∧ (((s reqRead).handEnd (x .read) { status := .ok, values := [1, 2, 3, 4] }).watch 0 1).life = .ticks 20
      ∧ (((s reqWrite).handEnd (x .write) { status := .noResponse }).entry 0).map (·.toggle) = some none
      ∧ (((s reqWrite).handEnd (x .write) { status := .refused }).entry 0).map (·.toggle) = some (some false)
      ∧ ((s reqRead).handEnd { x .read with discard := true } { status := .ok }).port 0
        = { (s reqRead).port 0 with inFlight := none, credits := 16, state := .closed }
      ∧ ((s reqRead).handEnd { x .read with discard := true } { status := .ok }).watches = busy.watches
      ∧ (((s reqRead).handEnd { x .read with orphan := true } { status := .ok }).port 0).completions.length = 1 := by
  dsimp only; decide +kernel

/-- A READ, a POLL and a CWRITE that fail: below the threshold of 3 station 5 goes to SUSPECT; at it, to OFFLINE, and the
watch breaks; the CWRITE's own slot, COMMITTING, is emptied. -/
theorem test_failures :
    let x (kind : ExchangeKind) (purpose : Purpose) (origin : Origin) : Exchange :=
      { exchangeOf kind .receiving none none with toggleSent := some false, purpose := purpose, origin := origin }
    let s (n : Nat) : State := (flying .read .receiving none none).updEntry 0 ({ · with failures := n })
    let committing := (s 2).setWatch 0 2 { armedWatch 5 5 13 1 true with state := .committing }
    let ends (s : State) := (s.entry 0).map fun e => (e.state, e.failures, e.toggle)
    (s 0).loader.params.failureThreshold = 3
      ∧ ends ((s 0).handEnd (x .read .request (.port 0)) { status := .badReply }) = some (.suspect, 1, some false)
      ∧ ends ((s 1).handEnd (x .poll .poll .internal) { status := .noResponse }) = some (.suspect, 2, some false)
      ∧ ends ((s 2).handEnd (x .poll .poll .internal) { status := .noResponse }) = some (.offline, 3, none)
      ∧ (let t := committing.handEnd { x .cwriteAsWrite .request (.port 0) with watchSlot := some 2 } { status := .noResponse }
        ends t = some (.offline, 3, none) ∧ (t.watch 0 1).cause = .offline ∧ t.watch 0 2 = Watch.emptySlot
          ∧ (t.port 0).sticky.changed = true ∧ (t.port 0).sticky.broken = true
          ∧ (t.entry 0).map (·.changed) = some (PortSet.single 0)
          ∧ (t.port 0).completions.map (·.status) = [.noResponse]) := by dsimp only; decide +kernel

/-- The probe of station 8, on which the ATTACH of port 1 waits, ends OK, and fails. -/
theorem test_probe_end :
    let e := entry 8 .probing ⟨true, true, false, false⟩ none 0
    let x := pingExchange .probe 3 e
    let s := { busy with exchange := some x }.updPort 1 fun u =>
      { u with queue := [⟨headerWord reqAttach (head 2), [addressWord 8]⟩], headMark := .waiting, credits := 15 }
    x.purpose = .probe ∧ x.origin = .internal ∧ x.kind = .ping ∧ x.slot = some 3 ∧ x.orphan = false
      ∧ (s.entry 3).map (·.state) = some .probing
      ∧ (((s.handEnd x { status := .ok, pong := some (true, 7) }).port 1).completions.map (·.status)) = [.ok]
      ∧ (((s.handEnd x { status := .busy }).port 1).completions.map (·.status)) = [.offline]
      ∧ ((s.handEnd x { status := .busy }).entry 3).map (·.countdown) = some 10 := by dsimp only; decide +kernel

/-- The reprobe of station 7 ends OK, and fails. -/
theorem test_reprobe_end :
    let e := entry 7 .offline (PortSet.single 1) none 0
    let x := pingExchange .reprobe 2 e
    let s := busy.setEntry 2 (some e)
    x.purpose = .reprobe ∧ x.kind = .ping ∧ x.slot = some 2 ∧ x.orphan = false
      ∧ ((s.handEnd x { status := .ok, pong := some (true, 7) }).entry 2).map (fun e => (e.state, e.toggle, e.ack))
        = some (.online, some false, true)
      ∧ ((s.handEnd x { status := .ok, pong := some (true, 7) }).port 1).sticky.changed = true
      ∧ ((s.handEnd x { status := .busy }).entry 2).map (fun e => (e.state, e.countdown)) = some (.offline, 10) := by
  dsimp only; decide +kernel

/-- A CWRITE to station 6, paired with its resync PING. -/
def paired : State := after (.cwrite 0 (head 4) 6 10 4 [0, 0]) (turn.setWatch 0 1 (armedWatch 5 6 10 4 true))

/-- The resync PING of the pairing ends OK, and with BUSY. -/
theorem test_resync_end :
    let x := paired.exchange.getD freshExchange
    paired.arbiter.pairing = some 0 ∧ (paired.watch 0 1).state = .committing ∧ paired.slotOf 6 = some 1
      ∧ (∀ q, paired.localReady q = false) ∧ x.purpose = .resync ∧ x.kind = .ping ∧ x.slot = some 1
      ∧ (paired.port 0).queue.map (fun r => (r.isCwrite, r.top)) = [(true, 6)]
      ∧ (paired.entry 1).map (fun e => (e.state, e.toggle)) = some (.suspect, none)
      ∧ (paired.endExchange x { status := .ok, pong := some (true, 7) }).exchange.map (fun y : Exchange =>
          (y.kind, y.toggleSent)) = some (.cwriteAsWrite, some false)
      ∧ ((paired.endExchange x { status := .busy }).port 0).completions.map (·.status) = [.noResponse]
      ∧ (paired.endExchange x { status := .busy }).watch 0 1 = Watch.emptySlot := by dsimp only; decide +kernel

theorem test_heard :
    (busy.entry 0).map (·.state) = some .online ∧ (busy.entry 1).map (·.state) = some .suspect
      ∧ (busy.entry 2).map (·.state) = some .offline
      ∧ ((busy.heard 1).entry 1).map (·.state) = some .online ∧ ((busy.heard 1).port 0).sticky.changed = true
      ∧ (Arbiter.reset.pollEnded true = Arbiter.reset)
      ∧ ({ Arbiter.reset with cycleOpen := true, cursor := 31 }.pollEnded false).cycleOpen = false := by decide +kernel

/-- A report of station 5 on point 10: port 0 accepts it, its watch breaks; with 32 records the gap mark is set. -/
theorem test_reports_are_routed :
    let s := { busy with routing := busy.routing.set 0 { Routing.cleared with mode := .all } }
    let full := s.updPort 0 fun u => { u with reports := List.replicate 32 ⟨5, false, [⟨1, 2⟩]⟩ }
    (s.entry 0).isSome = true
      ∧ ((s.route 0 5 [⟨10, 1⟩]).port 0).reports = [⟨5, false, [⟨10, 1⟩]⟩]
      ∧ ((s.route 0 5 [⟨10, 1⟩]).watch 0 1).cause = .report
      ∧ ((full.route 0 5 [⟨10, 1⟩]).entry 0).map (·.gaps.get 0) = some true := by dsimp only; decide +kernel

/-! ### Further clauses of the statements above -/

/-- The failure that reaches the threshold of 3 takes station 5 OFFLINE. -/
theorem test_last_timeout_at_the_threshold :
    let s := lastAttempt.updEntry 0 ({ · with failures := 2 })
    s.loader.params.failureThreshold = 3 ∧ (s.entry 0).map (·.failures) = some 2 ∧ (∀ q, (s.port q).queue = [])
      ∧ ((after .replyTimerExpiry s).entry 0).map (fun e => (e.state, e.countdown)) = some (.offline, 10) := by
  dsimp only; decide +kernel

/-- A quiet WRITE that ended OK, and a quiet broadcast, return their credit. -/
theorem test_quiet_writes :
    let quiet : PortUnit → PortUnit := fun u =>
      { u with inFlight := some ⟨headerWord reqWrite { head 4 with quiet := true }, [lineWord 5 13 4, 0, 0]⟩ }
    let x : Exchange := { exchangeOf .write .receiving none none with toggleSent := some false }
    let s := (flying .write .receiving none none).updPort 0 quiet
    ((s.handEnd x { status := .ok }).port 0).credits = 16
      ∧ ((after .holdoffExpiry (holding.updPort 0 quiet)).port 0).credits = 16
      ∧ (s.port 0).inFlight.map (fun r => (r.isWrite, r.quiet)) = some (true, true) := by dsimp only; decide +kernel

/-- A MARK behind a request in flight waits; ATTACHes to a SUSPECT, an OFFLINE and a PROBING station of others. -/
theorem test_waiting_and_joining :
    let s := chan (flying .read .awaiting (some 9) none) 0 .submit
    let t := chan busy 2 .submit
    ((after (.mark 0 (head 2) []) s).port 0).queue.length = 1
      ∧ ((after (.attach 2 (head 2) 6 []) t).port 2).completions.map (fun c => (c.status, c.detail)) = [(.ok, 3)]
      ∧ ((after (.attach 2 (head 2) 7 []) t).port 2).completions.map (·.status) = [.offline]
      ∧ ((after (.attach 2 (head 2) 8 []) t).port 2).headMark = .waiting
      ∧ ((after (.detach 2 (head 2) 8 []) t).port 2).completions.map (·.status) = [.notAttached] := by
  dsimp only; decide +kernel

/-- A poll tick with polling disabled leaves the cycle closed; a CLOSE in flight leaves CLOSING; no restart ends twice. -/
theorem test_disabled_polling_and_closing :
    let s := flying .read .awaiting (some 9) none
    let off := { s with loader := { s.loader with params := { s.loader.params with pollingEnabled := false } } }
    (after .pollTick off).arbiter.cycleOpen = false
      ∧ ((after (.close 0) (chan s 0 .control)).port 0).state = .closing
      ∧ (after (.close 0) (chan s 0 .control)).exchange.map (·.discard) = some true
      ∧ (after (.close 0) (having (chan s 0 .control) 0 .closed)).exchange = s.exchange
      ∧ (after .warmRestartEnd s).run = .running := by dsimp only; decide +kernel

/-! ### Slow time -/

theorem test_ticks :
    let s := flying .read .awaiting (some 9) none
    s.arbiter.pollTimer = some 50 ∧ s.exchange.isSome = true ∧ (∀ q, s.localReady q = false)
      ∧ State.reset.arbiter.pollTimer = none
      ∧ (after .tick s).arbiter.pollTimer = some 49
      ∧ (let t := after .pollTick { s with table := s.table.set 2 none }
        t.arbiter.cycleOpen = true ∧ (t.watch 0 1).cause = .expired ∧ (t.port 0).sticky.broken = true
          ∧ (after .pollTick t).arbiter.overruns = 1 ∧ ((after .pollTick t).port 3).sticky.overrun = true) := by
  dsimp only; decide +kernel

/-- An open cycle at slot 0 in the burst of another station passes to slot 1, and at slot 2 closes; a poll tick polls slot
0, and with no capable station closes its cycle at once. -/
theorem test_cursor_walk :
    let walk (cursor : Nat) : State := { busy with
      arbiter := { busy.arbiter with cycleOpen := true, cursor := cursor, burstCount := 1, burstAddress := some 6 } }
    let poll (s : State) := s.exchange.map fun x : Exchange => (x.slot, s.arbiter.burstCount)
    let quiet := busy.setEntry 2 none
    poll (walk 0).choice = some (some 1, 1) ∧ poll (walk 1).choice = some (some 1, 2)
      ∧ poll (walk 2).choice = none ∧ (walk 2).choice.arbiter.cycleOpen = false
      ∧ quiet.run = .running ∧ quiet.exchange = none ∧ quiet.loader.params.pollingEnabled = true
      ∧ ((∀ q, (quiet.port q).queue = []) ∧ quiet.arbiter.serviceList = [] ∧ quiet.arbiter.cycleOpen = false)
      ∧ poll (after .pollTick quiet) = some (some 0, 1)
      ∧ (let bare := { quiet with table := List.replicate 32 none }
        (after .pollTick bare).exchange = none ∧ (after .pollTick bare).arbiter.cycleOpen = false) := by
  dsimp only; decide +kernel

theorem test_reprobe_and_expiry :
    busy.run = .running ∧ (busy.entry 2).map (fun e => (e.state, e.countdown)) = some (.offline, 1)
      ∧ (∀ q, busy.localReady q = false) ∧ busy.exchange = none ∧ busy.arbiter.serviceList = []
      ∧ (after (.reprobeDue 2) busy).exchange.map (·.purpose) = some .reprobe
      ∧ (busy.watch 0 1).state = .armed ∧ (busy.watch 0 1).life = .ticks 1
      ∧ ((after (.watchExpired 0 1) busy).watch 0 1).cause = .expired := by decide +kernel

/-! ### Layouts and the stations -/

/-- The shapes of R8 at their limits: one and 32 values, fragment 3 and 4, eight items, a count that differs. -/
theorem test_shapes :
    (replyOf 0x0A (3 :: List.replicate 64 0)).isSome = true ∧ replyOf 0x0A (3 :: List.replicate 66 0) = none
      ∧ replyOf 0x0A [4, 0, 0] = none ∧ replyOf 0x0A [0] = none ∧ replyOf 0x2A [3, 1, 2] = some (.answer 3 [0x0102] true)
      ∧ (replyOf 0x0D (8 :: List.replicate 32 0)).isSome = true ∧ replyOf 0x0D [2, 0, 0, 0, 0] = none
      ∧ replyOf 0x1D [1, 1, 2, 3, 4] = some (.report true false [⟨0x0102, 0x0304⟩])
      ∧ replyOf 9 [1, 0, 7] = some (.pong true 7) ∧ replyOf 12 [9] = some (.refuse .fault) ∧ replyOf 4 [] = none := by
  decide +kernel

/-- The words of an ARMED slot of unlimited life, of an EMPTY one, and of the defaults. -/
theorem test_query_words :
    watchWords (armedWatch 0 5 10 4 true) = [0x10010005#32, 0x000A0004#32] ∧ watchWords Watch.emptySlot = [0, 0]
      ∧ lineWords Config.defaults 3 .adjusted = [0x123801B8#32, 0x320A1403#32, 0x0DCF1111#32, 0x02000000#32] := by
  decide +kernel

/-- Values and addresses in their words, at odd numbers and at none, and three values read back from two words. -/
theorem test_packed_words :
    packHalves [1, 2, 3] = [0x00010002#32, 0x00030000#32] ∧ packHalves [] = []
      ∧ packBytes [1, 2, 3, 4, 5] = [0x01020304#32, 0x05000000#32] ∧ packBytes [1, 2, 3] = [0x01020300#32]
      ∧ packBytes [1, 2] = [0x01020000#32] ∧ packBytes [] = []
      ∧ Request.values ⟨headerWord 2#4 (head 4), [lineWord 5 0 3, 0x00010002, 0x00030004]⟩ = [1, 2, 3] := by decide +kernel

/-- The covered bytes of a resync PING, a POLL, a READ and a WRITE. -/
theorem test_frames_of_the_part :
    coveredBytes (pingFrame 5 ⟨true, true⟩) = [5, 240, 0xC1, 0] ∧ coveredBytes (pollFrame 5 ⟨false, true⟩) = [5, 240, 0x84, 0]
      ∧ coveredBytes (readFrame 5 0x0102 128) = [5, 240, 2, 3, 1, 2, 128]
      ∧ coveredBytes (writeFrame 0 true 0x0102 [0x0304, 5]) = [0, 240, 0x13, 7, 1, 2, 2, 3, 4, 0, 5] := by decide +kernel

/-- The two words of a record with its gap flag set, taken, and zeros behind them. -/
theorem test_report_words :
    let s (pos : Nat) (finished : Bool) : State := (chan running 0 .takeReport).updPort 0 fun u =>
      { u with reports := [⟨5, true, [⟨10, 3⟩]⟩], reportPos := pos, link := { u.link with finished := finished } }
    let sent (s : State) := ((after (.takeReport 0) s).port 0).link.sent
    (s 0 false).acts 0 .takeReport = true ∧ sent (s 0 false) = some 0x11010502 ∧ sent (s 1 false) = some 0x000A0003
      ∧ sent (s 0 true) = some 0 := by dsimp only; decide +kernel

theorem test_record_lengths : (List.replicate 67 (0 : Byte)).length ≤ 67 ∧ (List.replicate 64 (0 : Word)).length ≤ 64
    ∧ (List.replicate 8 (⟨0, 0⟩ : Item)).length ≤ 8 := by decide

/-- A station of two points takes a WRITE of its last point, once. -/
theorem test_station_write :
    let st : Station := ⟨5, true, [1, 2], none, false, []⟩
    let f : Heard := ⟨0x13, [0, 1, 1, 0, 9]⟩
    f.first + f.count ≤ st.points.length ∧ st.capable = true ∧ (st.write f).1.points = [1, 9]
      ∧ ((st.write f).1.write f).1 = (st.write f).1 := by dsimp only; decide +kernel

/-! ### The invariants hold of a part at work -/

theorem flying_creditInv : CreditInv (flying .read .awaiting (some 9) none) where
  accounted := by decide +kernel
  closed := by decide +kernel
  closing := by decide +kernel
  flight p h := ⟨_, rfl, by revert p; decide +kernel⟩
  unloaded := by decide +kernel

theorem busy_watchInv : WatchInv busy where
  empty := by decide +kernel
  covers := by decide +kernel
  cause := by decide +kernel
  alive := by decide +kernel
  attached p k c h := by
    have hc : ∀ p k, ∀ c ∈ (busy.watch p k).cover, p = 0 ∧ c.station = 5 := by decide +kernel
    obtain ⟨rfl, hs⟩ := hc p k c h
    exact ⟨0, _, rfl, hs.symm, rfl⟩
  flight _ _ h := nomatch h
  watching _ _ _ h := nomatch h
  pairing _ h := nomatch h

/-- A watched READ in flight. -/
def watching : State := after (.read 0 { head 2 with watch := true } 5 99 2 []) turn

theorem watching_watchInv : WatchInv watching where
  empty := by decide +kernel
  covers := by decide +kernel
  cause := by decide +kernel
  alive := by decide +kernel
  attached p k c h := by
    have hc : ∀ p k, (watching.watch p k).cover = none := by decide +kernel
    rw [hc p k] at h
    cases h
  flight x p h ho := by
    have hx : ∀ x ∈ watching.exchange, x.origin = .port 0 ∧ (watching.port 0).inFlight.isSome = true := by
      decide +kernel
    obtain ⟨h0, hf⟩ := hx x h
    cases h0.symm.trans ho
    exact hf
  watching x p k h ho _ _ _ _ := by
    have hx : ∀ x ∈ watching.exchange, x.origin = .port 0 ∧ x.slot = some 0 ∧ x.address = 5 := by decide +kernel
    obtain ⟨h0, hs, ha⟩ := hx x h
    cases h0.symm.trans ho
    exact ⟨0, _, hs, rfl, ha.symm, rfl⟩
  pairing _ h := nomatch h

theorem paired_watchInv_pairing : ∀ p, paired.arbiter.pairing = some p → (∃ x, paired.exchange = some x
    ∧ x.purpose = .resync) ∧ ∃ r rest, (paired.port p).queue = r :: rest ∧ (r.isWrite = true ∨ r.isCwrite = true) := by
  intro p h
  have hp : paired.arbiter.pairing = some 0 := by decide +kernel
  cases hp.symm.trans h
  exact ⟨⟨_, rfl, rfl⟩, _, _, rfl, by decide +kernel⟩

theorem busy_limitInv : LimitInv busy where
  idle := by decide +kernel
  reports := by decide +kernel
  keys := by decide +kernel
  cursor := by decide +kernel
  cycleClosed := by decide +kernel
  polling _ h := nomatch h
  burst := by decide +kernel
  burstAtRest := by decide +kernel
  burstAddress := by decide +kernel

theorem busy_serviceInv : ServiceInv busy where
  slots := by decide +kernel
  interval := by decide +kernel
  once := by decide +kernel
  probes i h := nomatch h
  reprobes i h := nomatch h
  probing _ _ h := nomatch h
  reprobing _ _ h := nomatch h

theorem busy_paramInv : ParamInv busy := ⟨by decide, by decide, by decide, by decide, by decide, by decide, by decide,
  by decide, by decide⟩

theorem test_a_step_from_every_invariant :
    (∃ t, step (flying .read .awaiting (some 9) none) = .next t) ∧ (∃ t, step busy = .next t)
      ∧ (∃ t, step loading = .next t) ∧ busy.Quiet :=
  ⟨⟨_, rfl⟩, ⟨_, rfl⟩, ⟨_, rfl⟩, by unfold State.Quiet; decide +kernel⟩

end Sys2Proof.Tests
end

section
/-! SUPPORT. The rules of time on the field line: what the commands of the line, the passing of bit times, the
transmitter and the receiver do to the line and the exchange record, one lemma for each plain case. -/

namespace Sys2Proof.Machine

open Sys2Proof

/-! ### The commands of the field line -/

@[simp] theorem exec_sendComplete (s : State) : exec .sendComplete s = execSendComplete s := rfl

@[simp] theorem exec_characterReceived (data : Byte) (parity stop : Bool) (s : State) :
    exec (.characterReceived data parity stop) s = execCharacterReceived data parity stop s := rfl

@[simp] theorem exec_frameConfirmation (s : State) : exec .frameConfirmation s = execFrameConfirmation s :=
  rfl

/-! ### Bit times (R2, R55, R68) -/

/-- The timers of the exchange record, if one stands there, are stopped. -/
def State.TimersStopped (s : State) : Prop :=
  ∀ x, s.exchange = some x → x.replyTimer = none ∧ x.holdoffTimer = none

/-- Time does not touch a record whose timers are stopped. -/
theorem Exchange.elapse_of_stopped (x : Exchange) (n : Nat) (hreply : x.replyTimer = none)
    (hholdoff : x.holdoffTimer = none) : x.elapse n = x := by
  cases x
  simp_all [Exchange.elapse]

/-- With the timers stopped only the idle count moves. -/
theorem State.elapse_of_stopped (s : State) (n : Nat) (h : s.TimersStopped) :
    s.elapse n = { s with line := s.line.elapse n } := by
  have hx : s.exchange.map (·.elapse n) = s.exchange := by
    cases hs : s.exchange with
    | none => rfl
    | some x =>
      obtain ⟨hreply, hholdoff⟩ := h x hs
      simp [x.elapse_of_stopped n hreply hholdoff]
  simp only [State.elapse, hx]

/-- On a high line the idle count rises, up to 44 (R2). -/
theorem LineInterface.elapse_high (l : LineInterface) (n : Nat) (h : l.low = false) :
    l.elapse n = { l with idle := min Config.frameGap (l.idle + n) } := by
  simp [LineInterface.elapse, h]

/-- On a line held low the idle count stands at 0 (R2). -/
theorem LineInterface.elapse_low (l : LineInterface) (n : Nat) (h : l.low = true) :
    l.elapse n = { l with idle := 0 } := by
  simp [LineInterface.elapse, h]

@[simp] theorem State.elapse_line (s : State) (n : Nat) : (s.elapse n).line = s.line.elapse n := rfl

@[simp] theorem LineInterface.elapse_rx (l : LineInterface) (n : Nat) : (l.elapse n).rx = l.rx := by
  unfold LineInterface.elapse; split <;> rfl

/-- Where no frame is being received the passing of time ends none. -/
theorem State.lapse_no_frame (s : State) (n : Nat) (h : s.line.rx.midFrame = false) : s.lapse n = s.elapse n := by
  simp [State.lapse, h]

/-- On a line held low no frame is confirmed, since the idle count stands at 0 (R2, R6). -/
theorem State.lapse_low (s : State) (n : Nat) (h : s.line.low = true) : s.lapse n = s.elapse n := by
  simp [State.lapse, s.line.elapse_low n h]

/-- A frame being received ends when the idle count passes 22 (R6). -/
theorem State.lapse_confirms (s : State) (n : Nat) (hframe : s.line.rx.midFrame = true)
    (hidle : Config.characterGap < (s.line.elapse n).idle) : s.lapse n = (s.elapse n).confirmFrame := by
  simp [State.lapse, hframe, hidle]

/-! ### The end of a received frame (R6, R7) -/

theorem State.confirmFrame_discarding (s : State) (h : s.line.rx = .discarding) :
    s.confirmFrame = s.setRx .hunting := by
  simp [State.confirmFrame, h]

theorem State.confirmFrame_collecting (s : State) (chars : List Byte) (h : s.line.rx = .collecting chars) :
    s.confirmFrame = (s.setRx .hunting).frameEnded (.garbled .shortFrame) := by
  simp [State.confirmFrame, h]

theorem State.confirmFrame_held (s : State) (chars : List Byte) (h : s.line.rx = .held chars) :
    s.confirmFrame = (s.setRx .hunting).frameEnded (evaluateFrame chars) := by
  simp [State.confirmFrame, h]

/-- Outside RECEIVING the end of a frame only opens the receiver for the next one (R6, R61). -/
theorem State.confirmFrame_elsewhere (s : State) (hframe : s.line.rx.midFrame = true)
    (hphase : ∀ x, s.exchange = some x → x.phase ≠ .receiving) : s.confirmFrame = s.setRx .hunting := by
  cases hrx : s.line.rx with
  | closed => simp [hrx, Receiver.midFrame] at hframe
  | hunting => simp [hrx, Receiver.midFrame] at hframe
  | collecting chars => rw [s.confirmFrame_collecting chars hrx, (s.setRx .hunting).frameEnded_elsewhere _ hphase]
  | held chars => rw [s.confirmFrame_held chars hrx, (s.setRx .hunting).frameEnded_elsewhere _ hphase]
  | discarding => exact s.confirmFrame_discarding hrx

/-- The idle time still wanting passes over a record that neither receives nor counts: the idle count comes to 44, and
of the rest at most the receiver has changed (R2, R6). -/
theorem State.lapse_to_gap (s : State) (hlow : s.line.low = false) (hidle : s.line.idle ≤ Config.frameGap)
    (hstopped : s.TimersStopped) (hphase : ∀ x, s.exchange = some x → x.phase ≠ .receiving) :
    ∃ rx, s.lapse (Config.frameGap - s.line.idle)
      = { s with line := { s.line with rx := rx, idle := Config.frameGap } } := by
  have hline : s.line.elapse (Config.frameGap - s.line.idle) = { s.line with idle := Config.frameGap } := by
    rw [s.line.elapse_high _ hlow, Nat.add_sub_cancel' hidle, Nat.min_self]
  have helapse := s.elapse_of_stopped (Config.frameGap - s.line.idle) hstopped
  rw [hline] at helapse
  cases hframe : s.line.rx.midFrame with
  | false => exact ⟨s.line.rx, by rw [s.lapse_no_frame _ hframe, helapse]⟩
  | true =>
    have hgap : Config.characterGap < (s.line.elapse (Config.frameGap - s.line.idle)).idle := by
      rw [hline]; exact (by decide : Config.characterGap < Config.frameGap)
    refine ⟨.hunting, ?_⟩
    rw [s.lapse_confirms _ hframe hgap, helapse]
    exact State.confirmFrame_elsewhere { s with line := { s.line with idle := Config.frameGap } } hframe hphase

/-! ### The transmitter (R3, R4) -/

/-- A WAITING transmitter drives its frame when the idle count stands at 44 (R3). -/
theorem State.transmit_at_gap (s : State) (frame : List Byte) (htx : s.line.tx = .waiting frame)
    (hidle : s.line.idle = Config.frameGap) : s.transmit = { s with line := s.line.drive frame } := by
  simp [State.transmit, htx, hidle]

/-- Before the idle count stands at 44 the transmitter does nothing (R3). -/
theorem State.transmit_before_gap (s : State) (hidle : s.line.idle ≠ Config.frameGap) : s.transmit = s := by
  unfold State.transmit
  split <;> simp [hidle]

/-! ### A bit time (log 3) -/

/-- While an exchange is in SENDING, no timer and no gap of it is due. -/
theorem State.nothing_due_of_sending (s : State) (x : Exchange) (hx : s.exchange = some x)
    (hphase : x.phase = .sending) : s.replyLeft = none ∧ s.holdoffLeft = none ∧ s.gapEnds = s := by
  simp [State.replyLeft, State.holdoffLeft, State.gapEnds, hx, hphase]

/-- A bit time of a WAITING transmitter whose exchange is in SENDING, on a line where no frame is being received: the
counts run, and the frame starts when they call for it (R3). -/
theorem State.bitTime_waiting (s : State) (frame : List Byte) (x : Exchange) (hrun : s.run = .running)
    (htx : s.line.tx = .waiting frame) (hframe : s.line.rx.midFrame = false) (hx : s.exchange = some x)
    (hphase : x.phase = .sending) : s.bitTime = (s.elapse 1).transmit := by
  have hx' : (s.elapse 1).exchange = some (x.elapse 1) := by simp [State.elapse, hx]
  obtain ⟨hreply, hholdoff, hgap⟩ := (s.elapse 1).nothing_due_of_sending _ hx' hphase
  simp [State.bitTime, hrun, htx, s.lapse_no_frame 1 hframe, hreply, hholdoff, hgap]

/-- A part that does not run counts no bit times. -/
theorem State.bitTime_of_not_running (s : State) (h : s.run ≠ .running) : s.bitTime = s := by
  simp [State.bitTime, h]

/-- A driving transmitter sends its next bit (R4). -/
theorem State.bitTime_driving (s : State) (b c : Bool) (bits : List Bool) (hrun : s.run = .running)
    (htx : s.line.tx = .driving (b :: c :: bits)) :
    s.bitTime = { s with line := { s.line with tx := .driving (c :: bits) } } := by
  simp [State.bitTime, hrun, htx]

/-- On an empty queue a step is a bit time (log 3). -/
theorem step_of_empty_queue (s : State) (h : s.pending = []) : step s = .next s.bitTime := by
  simp [step, h]

end Sys2Proof.Machine
end

section
/-! CLAIM. Time on an empty queue. -/

open Sys2Proof Sys2Proof.Machine

/-- Settles O3: the queue is empty, so the step is a bit time, and each clause is its rule. -/
theorem emptyQueuePassesOneBitTime : Obligations.EmptyQueuePassesOneBitTime := by
  intro s hpending
  simp only [step_of_empty_queue s hpending]
  refine ⟨fun hrun => by rw [s.bitTime_of_not_running hrun], ?_,
    fun b c bits hrun htx => by rw [s.bitTime_driving b c bits hrun htx]⟩
  intro f x hrun hx hphase hreply hholdoff
  have hstopped : s.TimersStopped := by
    intro y hy
    cases hx.symm.trans hy
    exact ⟨hreply, hholdoff⟩
  have hbit : ∀ n, s.line = ⟨.waiting f, .hunting, n, false⟩ →
      s.bitTime
        = ({ s with line := ⟨.waiting f, .hunting, min Config.frameGap (n + 1), false⟩ } : State).transmit := by
    intro n hline
    rw [s.bitTime_waiting f x hrun (by rw [hline]) (by rw [hline]; rfl) hx hphase, s.elapse_of_stopped 1 hstopped,
      hline, LineInterface.elapse_high _ 1 rfl]
  constructor
  · intro hline hidle
    have hcount : min Config.frameGap (s.line.idle + 1) = s.line.idle + 1 :=
      Nat.min_eq_right (Nat.le_of_lt (Nat.succ_lt_succ hidle))
    have hgap : s.line.idle + 1 ≠ Config.frameGap := Nat.ne_of_lt (Nat.succ_lt_succ hidle)
    rw [hbit _ hline, hcount, State.transmit_before_gap _ hgap, hline]
  · intro hline
    rw [hbit 43 hline, State.transmit_at_gap _ f rfl rfl]
    rfl

end

section
/-! SUPPORT. The characters and frames of the line (R1, R4, R5, R11). -/

namespace Sys2Proof.Machine

open Sys2Proof

@[simp] theorem characterBits_length (b : Byte) : (characterBits b).length = Config.characterBits := rfl

/-- The characters of a frame stand back to back (R4). -/
@[simp] theorem frameBits_cons (b : Byte) (rest : List Byte) :
    frameBits (b :: rest) = characterBits b ++ frameBits rest := by
  simp [frameBits]

/-- A frame takes 11 bit times a character (R1, R4). -/
theorem frameBits_length (frame : List Byte) : (frameBits frame).length = 11 * frame.length := by
  induction frame with
  | nil => rfl
  | cons b rest ih =>
    rw [frameBits_cons, List.length_append, ih, characterBits_length, List.length_cons]
    simp only [Config.characterBits]
    omega

/-- A bit more counts as a one or not. -/
theorem oddOnes_concat (bits : List Bool) (b : Bool) : oddOnes (bits ++ [b]) = (oddOnes bits != b) := by
  simp [oddOnes]

/-- A character sent with its own parity bit shows no fault but a low stop bit (R1, R5). -/
theorem characterFault_of_parity (b : Byte) (stop : Bool) :
    characterFault b (oddOnes (dataBits b)) stop = !stop := by
  simp [characterFault, oddOnes_concat]

@[simp] theorem bytesOfHalf_length (h : Half) : (bytesOfHalf h).length = 2 := rfl

/-- A frame of n payload bytes has n + 7 characters (R11). -/
theorem frameOf_length (destination source control : Byte) (payload : List Byte) :
    (frameOf destination source control payload).length = payload.length + 7 := by
  simp [frameOf]

/-! ### TRANSMIT_START -/

/-- TRANSMIT_START is no event where no frame waits (log 9). -/
theorem execTransmitStart_of_none (s : State) (h : ∀ f, s.line.tx ≠ .waiting f) :
    execTransmitStart s = .next s := by
  unfold execTransmitStart
  split
  · exact absurd ‹_› (h _)
  · rfl

/-- TRANSMIT_START lets the idle time still wanting pass and starts the frame (R3; log 4). -/
theorem execTransmitStart_of_waiting (s : State) (frame : List Byte) (h : s.line.tx = .waiting frame) :
    execTransmitStart s = .next (s.lapse (Config.frameGap - s.line.idle)).transmit := by
  simp [execTransmitStart, h]

/-- On a high line the waiting frame is driven, and nothing but the line changes (R3, R4). -/
theorem execTransmitStart_drives (s : State) (frame : List Byte) (htx : s.line.tx = .waiting frame)
    (hlow : s.line.low = false) (hidle : s.line.idle ≤ Config.frameGap)
    (hstopped : s.TimersStopped) (hphase : ∀ x, s.exchange = some x → x.phase ≠ .receiving) :
    execTransmitStart s = .next { s with line := s.line.drive frame } := by
  obtain ⟨rx, hlapse⟩ := s.lapse_to_gap hlow hidle hstopped hphase
  rw [execTransmitStart_of_waiting s frame htx, hlapse]
  exact congrArg _ <|
    State.transmit_at_gap { s with line := { s.line with rx := rx, idle := Config.frameGap } } frame htx rfl

/-- On a line held low the transmitter stays WAITING, with the idle count at 0 (R2, R3). -/
theorem execTransmitStart_low (s : State) (frame : List Byte) (htx : s.line.tx = .waiting frame)
    (hlow : s.line.low = true) : ∃ t, execTransmitStart s = .next t ∧ t.line = { s.line with idle := 0 } := by
  have hline : (s.elapse (Config.frameGap - s.line.idle)).line = { s.line with idle := 0 } := by
    rw [State.elapse_line, s.line.elapse_low _ hlow]
  have hwaits : (s.elapse (Config.frameGap - s.line.idle)).transmit = s.elapse (Config.frameGap - s.line.idle) := by
    refine State.transmit_before_gap _ ?_
    rw [hline]
    exact (by decide : (0 : Nat) ≠ Config.frameGap)
  exact ⟨_, by rw [execTransmitStart_of_waiting s frame htx, s.lapse_low _ hlow, hwaits], hline⟩

end Sys2Proof.Machine
end

section
/-! CLAIM. TRANSMIT_START and the frames of the part. -/

open Sys2Proof Sys2Proof.Machine

/-- Settles O35: the three cases of the command, then the characters, the frame and the frames of the part, which are
their definitions with the codes of R192 written out. -/
theorem transmitStartDrivesTheFrame : Obligations.TransmitStartDrivesTheFrame := by
  refine ⟨fun s => ⟨?_, ?_, ?_⟩, ⟨frameBits_length, ?_, frameOf_length⟩, ?_, ?_⟩
  · intro f htx hlow hidle hsending
    have hstopped : s.TimersStopped := fun x hx => (hsending x hx).2
    have hphase : ∀ x, s.exchange = some x → x.phase ≠ .receiving := fun x hx => by simp [(hsending x hx).1]
    refine ⟨_, execTransmitStart_drives s f htx hlow hidle hstopped hphase, ?_, rfl, rfl⟩
    simp [LineInterface.drive, hlow]
  · intro f htx hlow
    obtain ⟨t, ht, hline⟩ := execTransmitStart_low s f htx hlow
    exact ⟨t, ht, by rw [hline]; exact htx, by rw [hline]⟩
  · exact execTransmitStart_of_none s
  · intro b rest
    exact ⟨oddOnes (dataBits b), frameBits_cons b rest, characterFault_of_parity b⟩
  · intro destination source control payload
    rfl
  · intro a k v t first count values
    exact ⟨rfl, rfl, rfl, rfl⟩

end

section
/-! SUPPORT. SEND_COMPLETE, and the end of an exchange on a part where nothing waits for the line (R69, R79). -/

namespace Sys2Proof.Machine

open Sys2Proof

/-! ### Where nothing waits -/

/-- With empty queues no local request may execute (R147). -/
theorem State.localReady_of_empty (s : State) (p : Port) (h : (s.port p).queue = []) : s.localReady p = false := by
  simp [State.localReady, h]

/-- With no cycle open the cursor does not walk (R84). -/
theorem State.walkCursor_closed (s : State) (fuel : Nat) (h : s.arbiter.cycleOpen = false) :
    State.walkCursor fuel s = s := by
  cases fuel <;> simp [State.walkCursor, h]

/-- A choice where nothing waits finds nothing (R80). -/
theorem State.chooseOnce_of_nothingWaits (s : State) (h : s.NothingWaits) (hx : s.exchange = none) :
    s.chooseOnce = (s, false) := by
  have hports := s.choosePort_none fun p => s.eligible_of_empty p (h.queues p)
  simp [State.chooseOnce, h.service, s.walkCursor_closed _ h.cycle, hx, hports]

/-- Where nothing waits the Arbiter's choice changes nothing (R79, R80). -/
theorem State.choice_of_nothingWaits (s : State) (h : s.NothingWaits) (hx : s.exchange = none) : s.choice = s := by
  unfold State.choice
  split
  · simp [State.chooseAll, s.chooseOnce_of_nothingWaits h hx]
  · rfl

/-- Where nothing waits there is nothing to take up but the choice called for. -/
theorem State.due_of_nothingWaits (s : State) (call : Bool) (h : s.NothingWaits) (hx : s.exchange = none) :
    s.due call = if call then [.choose] else [] := by
  simp [State.due, fun p => s.localReady_of_empty p (h.queues p), hx]

/-- Where nothing waits a call for a choice is taken up without effect. -/
theorem State.settleAll_of_nothingWaits (s : State) (fuel : Nat) (call : Bool) (h : s.NothingWaits)
    (hx : s.exchange = none) : State.settleAll fuel call s = s := by
  induction fuel generalizing call with
  | zero => rfl
  | succ fuel ih =>
    rw [State.settleAll, s.due_of_nothingWaits call h hx]
    cases call with
    | false => rfl
    | true =>
      show State.settleAll fuel false s.choice = s
      rw [s.choice_of_nothingWaits h hx, ih]

/-- An exchange other than a resync hands its end to every block, and then the Arbiter is called to a choice (R69,
R79). -/
theorem State.endExchange_no_resync (s : State) (x : Exchange) (o : Final) (hpurpose : x.purpose ≠ .resync) :
    s.endExchange x o = ((s.handEnd x o).originExecutes x).settle true := by
  cases hx : x.purpose <;> simp [State.endExchange, hx]
  exact absurd hx hpurpose

/-- Where nothing waits no new exchange starts at the end of one (R69, R79). -/
theorem State.endExchange_of_nothingWaits (s : State) (x : Exchange) (o : Final) (hpurpose : x.purpose ≠ .resync)
    (h : (s.handEnd x o).NothingWaits) (hx : (s.handEnd x o).exchange = none) :
    s.endExchange x o = s.handEnd x o := by
  have horigin : (s.handEnd x o).originExecutes x = s.handEnd x o := by
    unfold State.originExecutes
    split
    · simp [State.localReady_of_empty _ _ (h.queues _)]
    · rfl
  rw [s.endExchange_no_resync x o hpurpose, horigin]
  exact State.settleAll_of_nothingWaits _ _ _ h hx

/-! ### The port at the end of its exchange (R73, R163) -/

/-- The end of its exchange leaves a port's queue as it is. -/
@[simp] theorem PortUnit.takesEnd_queue (u : PortUnit) (x : Exchange) (o : Final) :
    (u.takesEnd x o).queue = u.queue := by
  cases hu : u.inFlight <;> simp only [PortUnit.takesEnd, hu]
  split
  · simp [PortUnit.dropFlight, hu]
  · split <;> simp [PortUnit.dropFlight, PortUnit.endFlight, PortUnit.place, hu]

/-- A quiet WRITE that ended OK returns its credit and leaves no record (R163). -/
theorem PortUnit.takesEnd_quiet (u : PortUnit) (x : Exchange) (o : Final) (r : Request) (hr : u.inFlight = some r)
    (hx : x.discard = false) (hwrite : r.isWrite = true) (hquiet : r.quiet = true) (ho : o.status = .ok) :
    u.takesEnd x o = { u with inFlight := none, credits := u.credits + 1 } := by
  simp [PortUnit.takesEnd, PortUnit.dropFlight, hr, hx, hwrite, hquiet, ho]

/-- A request that is not quiet ends with a completion record (R73). -/
theorem PortUnit.takesEnd_record (u : PortUnit) (x : Exchange) (o : Final) (r : Request) (hr : u.inFlight = some r)
    (hx : x.discard = false) (hquiet : r.quiet = false) :
    u.takesEnd x o = { u with inFlight := none, completions := u.completions ++ [flightCompletion r x o] } := by
  simp [PortUnit.takesEnd, PortUnit.endFlight, PortUnit.place, hr, hx, hquiet]

/-- Whatever the outcome, the request is no longer in flight (R73, R163, R171). -/
@[simp] theorem PortUnit.takesEnd_inFlight (u : PortUnit) (x : Exchange) (o : Final) :
    (u.takesEnd x o).inFlight = none := by
  cases hu : u.inFlight <;> simp only [PortUnit.takesEnd, hu]
  split
  · simp [PortUnit.dropFlight, hu]
  · split <;> simp [PortUnit.dropFlight, PortUnit.endFlight, hu]

/-! ### The end of a broadcast (R68, R107) -/

/-- The exchange of a port's broadcast as the Engine holds it: a request to no station, with no watch slot of its own,
and neither orphaned nor to be discarded. -/
structure Exchange.PortBroadcast (x : Exchange) (p : Port) : Prop where
  kind : x.kind = .broadcast
  origin : x.origin = .port p
  purpose : x.purpose = .request
  slot : x.slot = none
  orphan : x.orphan = false
  discard : x.discard = false
  watchSlot : x.watchSlot = none

/-- The outcome of a broadcast that ended OK, at the blocks that take it up. -/
def State.broadcastEnded (s : State) (x : Exchange) (p : Port) : State :=
  (({ s with exchange := none } : State).breakWatches (hitsBroadcast x.first x.count) .broadcast none).updPort p
    (·.takesEnd x { status := .ok })

/-- A broadcast that ended OK breaks the watches it meets and is reported to its port; no other block takes it up
(R68, R107). -/
theorem State.handEnd_broadcast (s : State) (x : Exchange) (p : Port) (h : x.PortBroadcast p) :
    s.handEnd x { status := .ok } = s.broadcastEnded x p := by
  simp [State.broadcastEnded, State.handEnd, State.tableTakesEnd, State.watchTakesEnd, State.breaksTakeEnd,
    State.ownWatchTakesEnd, State.routerTakesEnd, State.attachesTakeEnd, State.arbiterTakesEnd, State.portTakesEnd,
    h.kind, h.origin, h.purpose, h.slot, h.orphan, h.discard, h.watchSlot]

/-- Breaking watches hands notices to the ports and changes nothing else of them (R100, R104). -/
theorem State.breakWatches_port (s : State) (hit : Cover → Bool) (c : BreakCause) (o : Option (Port × WatchNo))
    (p : Port) : ∃ f, (s.breakWatches hit c o).port p = { s.port p with sticky := f } := by
  show ∃ f, (s.notice _ Sticky.setBroken).port p = { s.port p with sticky := f }
  rw [State.notice_port]
  split
  · exact ⟨_, rfl⟩
  · exact ⟨_, rfl⟩

/-- What the end of a broadcast leaves of a port: notices may have come, and the port of the broadcast takes its
end. -/
theorem State.broadcastEnded_port (s : State) (x : Exchange) (p q : Port) : ∃ f,
    (s.broadcastEnded x p).port q
      = if q = p then ({ s.port p with sticky := f } : PortUnit).takesEnd x { status := .ok }
        else { s.port q with sticky := f } := by
  obtain ⟨f, hf⟩ := State.breakWatches_port { s with exchange := none } (hitsBroadcast x.first x.count) .broadcast
    none q
  refine ⟨f, ?_⟩
  rw [State.broadcastEnded, State.updPort_port, hf]
  split
  · subst q; rw [hf]; rfl
  · rfl

/-- The port of the broadcast, notices aside, takes its end. -/
theorem State.broadcastEnded_own_port (s : State) (x : Exchange) (p : Port) : ∃ f,
    (s.broadcastEnded x p).port p = ({ s.port p with sticky := f } : PortUnit).takesEnd x { status := .ok } := by
  obtain ⟨f, hf⟩ := s.broadcastEnded_port x p p
  exact ⟨f, by rw [hf, if_pos rfl]⟩

/-- A broadcast that has ended is no longer in flight. -/
theorem State.broadcastEnded_inFlight (s : State) (x : Exchange) (p : Port) :
    ((s.broadcastEnded x p).port p).inFlight = none := by
  obtain ⟨f, hf⟩ := s.broadcastEnded_own_port x p
  rw [hf, PortUnit.takesEnd_inFlight]

/-- A quiet broadcast leaves its port its credit and no record (R163). -/
theorem State.broadcastEnded_quiet (s : State) (x : Exchange) (p : Port) (r : Request)
    (hr : (s.port p).inFlight = some r) (hx : x.discard = false) (hwrite : r.isWrite = true)
    (hquiet : r.quiet = true) :
    ((s.broadcastEnded x p).port p).completions = (s.port p).completions
      ∧ ((s.broadcastEnded x p).port p).credits = (s.port p).credits + 1 := by
  obtain ⟨f, hf⟩ := s.broadcastEnded_own_port x p
  rw [hf, PortUnit.takesEnd_quiet { s.port p with sticky := f } x _ r hr hx hwrite hquiet rfl]
  exact ⟨rfl, rfl⟩

/-- A broadcast that is not quiet leaves its port a record, which holds the credit (R73, R161). -/
theorem State.broadcastEnded_record (s : State) (x : Exchange) (p : Port) (r : Request)
    (hr : (s.port p).inFlight = some r) (hx : x.discard = false) (hquiet : r.quiet = false) :
    ((s.broadcastEnded x p).port p).completions
        = (s.port p).completions ++ [flightCompletion r x { status := .ok }]
      ∧ ((s.broadcastEnded x p).port p).credits = (s.port p).credits := by
  obtain ⟨f, hf⟩ := s.broadcastEnded_own_port x p
  rw [hf, PortUnit.takesEnd_record { s.port p with sticky := f } x _ r hr hx hquiet]
  exact ⟨rfl, rfl⟩

/-- Every watch that the written range meets is broken (R107). -/
theorem State.broadcastEnded_watch (s : State) (x : Exchange) (p q : Port) (k : WatchNo) :
    (s.broadcastEnded x p).watch q k = (s.watch q k).breakBy (hitsBroadcast x.first x.count) .broadcast :=
  State.breakWatches_watch { s with exchange := none } _ _ none q k

/-- The end of a broadcast puts nothing in any queue. -/
theorem State.broadcastEnded_nothingWaits (s : State) (x : Exchange) (p : Port) (h : s.NothingWaits) :
    (s.broadcastEnded x p).NothingWaits where
  queues q := by
    obtain ⟨f, hf⟩ := s.broadcastEnded_port x p q
    rw [hf]
    split
    · rw [PortUnit.takesEnd_queue]; exact h.queues p
    · exact h.queues q
  service := h.service
  cycle := h.cycle

/-- A broadcast that ends where nothing waits has its outcome, and nothing follows (R68, R79). -/
theorem State.endBroadcast_of_nothingWaits (s : State) (x : Exchange) (p : Port) (h : x.PortBroadcast p)
    (hwaits : s.NothingWaits) : s.endBroadcast x = s.broadcastEnded x p := by
  have hend := s.handEnd_broadcast x p h
  rw [State.endBroadcast, s.endExchange_of_nothingWaits x _ (by simp [h.purpose]), hend]
  · rw [hend]; exact s.broadcastEnded_nothingWaits x p hwaits
  · rw [hend]; rfl

/-! ### SEND_COMPLETE -/

/-- After the frame of an exchange that expects a reply the record waits for it (R54). -/
theorem State.sendDone_awaits (s : State) (x : Exchange) (hx : s.exchange = some x) (hphase : x.phase = .sending)
    (hkind : x.kind ≠ .broadcast) : s.sendDone = s.await x := by
  simp [State.sendDone, hx, hphase, hkind]

/-- After the frame of a broadcast the hold-off runs (R68). -/
theorem State.sendDone_holds_off (s : State) (x : Exchange) (hx : s.exchange = some x) (hphase : x.phase = .sending)
    (hkind : x.kind = .broadcast) (hholdoff : s.loader.params.holdoff ≠ 0) :
    s.sendDone
      = { s with exchange := some { x with phase := .holdoff, holdoffTimer := some s.loader.params.holdoff } } := by
  simp [State.sendDone, hx, hphase, hkind, hholdoff]

/-- With a hold-off of 0 the broadcast ends with its frame (R68). -/
theorem State.sendDone_ends (s : State) (x : Exchange) (hx : s.exchange = some x) (hphase : x.phase = .sending)
    (hkind : x.kind = .broadcast) (hholdoff : s.loader.params.holdoff = 0) : s.sendDone = s.endBroadcast x := by
  simp [State.sendDone, hx, hphase, hkind, hholdoff]

/-- The line released at the end of a frame, and all else as it was (R4). -/
def State.lineReleased (s : State) : State := { s with line := s.line.release }

/-- SEND_COMPLETE releases the line, whatever bits were still to be driven (R4; log 4). -/
theorem execSendComplete_of_driving (s : State) (bits : List Bool) (h : s.line.tx = .driving bits) :
    execSendComplete s = .next s.lineReleased.sendDone := by
  simp [execSendComplete, h, State.completeSend, State.lineReleased]

end Sys2Proof.Machine
end

section
/-! CLAIM. SEND_COMPLETE. -/

open Sys2Proof Sys2Proof.Machine

/-- Settles O36: the line is released, and the record goes on by its kind and the hold-off. -/
theorem sendCompleteAwaitsTheReply : Obligations.SendCompleteAwaitsTheReply := by
  intro s x bits htx hx hphase
  have hsend := execSendComplete_of_driving s bits htx
  simp only [exec_sendComplete, hsend]
  refine ⟨fun hkind => ?_, fun hkind hholdoff => ?_, ?_⟩
  · rw [s.lineReleased.sendDone_awaits x hx hphase hkind]
    rfl
  · rw [s.lineReleased.sendDone_holds_off x hx hphase hkind hholdoff]
    rfl
  · intro p r hkind hholdoff horigin hpurpose hslot horphan hdiscard hattempt hwatch hflight hwaits
    have hb : x.PortBroadcast p := ⟨hkind, horigin, hpurpose, hslot, horphan, hdiscard, hwatch⟩
    have hn : s.lineReleased.NothingWaits := ⟨hwaits.queues, hwaits.service, hwaits.cycle⟩
    have hdone : s.lineReleased.sendDone = s.lineReleased.broadcastEnded x p := by
      rw [s.lineReleased.sendDone_ends x hx hphase hkind hholdoff,
        s.lineReleased.endBroadcast_of_nothingWaits x p hb hn]
    refine ⟨_, congrArg _ hdone, rfl, rfl, rfl, s.lineReleased.broadcastEnded_inFlight x p, rfl, rfl,
      s.lineReleased.broadcastEnded_watch x p, s.lineReleased.broadcastEnded_quiet x p r hflight hdiscard,
      fun hquiet => ?_⟩
    obtain ⟨hrecord, hcredits⟩ := s.lineReleased.broadcastEnded_record x p r hflight hdiscard hquiet
    exact ⟨_, hrecord, rfl, hattempt, rfl, hcredits⟩

end

section
/-! SUPPORT. CHARACTER_RECEIVED (R5-R7): the line while a character is received, FRAME BEGUN, and what the character
does to the receiver and to the attempt. -/

namespace Sys2Proof.Machine

open Sys2Proof

/-! ### The line while a character is received (R2, R5) -/

@[simp] theorem State.duringCharacter_line (s : State) (stop : Bool) :
    (s.duringCharacter stop).line = { s.line with idle := 0, low := !stop } := rfl

@[simp] theorem State.duringCharacter_exchange (s : State) (stop : Bool) :
    (s.duringCharacter stop).exchange = s.exchange.map fun x =>
      { x with holdoffTimer := x.holdoffTimer.map fun n => n - Config.characterBits } := rfl

/-- Without a hold-off a character leaves the record as it is. -/
theorem State.duringCharacter_exchange_of_no_holdoff (s : State) (stop : Bool) (x : Exchange)
    (hx : s.exchange = some x) (hholdoff : x.holdoffTimer = none) : (s.duringCharacter stop).exchange = some x := by
  rw [duringCharacter_exchange, hx, Option.map_some, hholdoff, Option.map_none, ← hholdoff]

/-- A closed receiver takes no character; one that ends low leaves the line low (R2, R4; log 22). -/
theorem execCharacterReceived_closed (data : Byte) (parity stop : Bool) (s : State) (h : s.line.rx = .closed) :
    execCharacterReceived data parity stop s
      = .next { s with line := { s.line with low := s.line.low || !stop } } := by
  simp [execCharacterReceived, h]

/-- An open receiver whose line is high takes the character (R5). -/
theorem execCharacterReceived_open (data : Byte) (parity stop : Bool) (s : State) (hrx : s.line.rx ≠ .closed)
    (hlow : s.line.low = false) : execCharacterReceived data parity stop s
      = .next ((s.duringCharacter stop).takeCharacter data (characterFault data parity stop)) := by
  simp [execCharacterReceived, hrx, hlow]

/-! ### FRAME BEGUN (R55, R56) -/

/-- The record of an exchange whose reply has begun. -/
def Exchange.begun (x : Exchange) : Exchange := { x with phase := .receiving, replyTimer := none }

/-- In AWAITING the record begins to receive, and the reply timer stops. -/
theorem State.frameBegun_awaiting (s : State) (x : Exchange) (hx : s.exchange = some x)
    (hphase : x.phase = .awaiting) : s.frameBegun = { s with exchange := some x.begun } := by
  simp [State.frameBegun, Exchange.begun, hx, hphase]

/-- With no exchange FRAME BEGUN is discarded (R61). -/
theorem State.frameBegun_idle (s : State) (hx : s.exchange = none) : s.frameBegun = s := by
  simp [State.frameBegun, hx]

/-- FRAME BEGUN changes nothing but the record. -/
theorem State.frameBegun_rest (s : State) : { s.frameBegun with exchange := s.exchange } = s := by
  unfold State.frameBegun
  split
  · rfl
  · split <;> rfl

/-! ### The causes that a character shows (R7; log 24) -/

theorem Receiver.causeOf_hunting (data : Byte) (fault : Bool) :
    Receiver.causeOf .hunting data fault
      = if fault = true then some .characterFault else if data ≠ Config.marker then some .marker else none := by
  simp only [Receiver.causeOf, firstCause, ite_not]

theorem Receiver.causeOf_collecting (chars : List Byte) (data : Byte) (fault : Bool) :
    Receiver.causeOf (.collecting chars) data fault
      = if fault = true then some .characterFault
        else if chars.length = 4 ∧ Config.maxPayload < data.toNat then some .lengthOver67 else none := by
  simp only [Receiver.causeOf, laterCause, Nat.reduceEqDiff]

/-- A first character that has a fault or is no marker shows a cause. -/
theorem Receiver.causeOf_hunting_bad (data : Byte) (fault : Bool) (h : fault = true ∨ data ≠ Config.marker) :
    ∃ cause, Receiver.causeOf .hunting data fault = some cause := by
  rw [Receiver.causeOf_hunting]
  split
  · exact ⟨_, rfl⟩
  · next hf => exact ⟨_, if_pos (h.resolve_left hf)⟩

/-- A later character that has a fault, or gives a length above 67, shows a cause. -/
theorem Receiver.causeOf_collecting_bad (chars : List Byte) (data : Byte) (fault : Bool)
    (h : fault = true ∨ (chars.length = 4 ∧ Config.maxPayload < data.toNat)) :
    ∃ cause, Receiver.causeOf (.collecting chars) data fault = some cause := by
  rw [Receiver.causeOf_collecting]
  split
  · exact ⟨_, rfl⟩
  · next hf => exact ⟨_, if_pos (h.resolve_left hf)⟩

/-- A marker without fault begins a frame (R6, R55). -/
theorem State.takeCharacter_begins (s : State) (data : Byte) (hrx : s.line.rx = .hunting)
    (hdata : data = Config.marker) : s.takeCharacter data false = s.frameBegun.setRx (.collecting [data]) := by
  have hcause : s.line.rx.causeOf data false = none := by simp [hrx, Receiver.causeOf_hunting, hdata]
  rw [s.takeCharacter_good _ _ hcause, if_pos hrx, hrx]
  rfl

/-- A later character without fault, and without a length above 67, joins the frame (R6). -/
theorem State.takeCharacter_extends (s : State) (chars : List Byte) (data : Byte)
    (hrx : s.line.rx = .collecting chars) (hlength : ¬ (chars.length = 4 ∧ Config.maxPayload < data.toNat)) :
    s.takeCharacter data false = s.setRx (.gathering (chars ++ [data])) := by
  have hcause : s.line.rx.causeOf data false = none := by simp [hrx, Receiver.causeOf_collecting, hlength]
  rw [s.takeCharacter_good _ _ hcause, if_neg (by simp [hrx]), hrx]
  rfl

theorem State.setRx_self (s : State) (rx : Receiver) (h : s.line.rx = rx) : s.setRx rx = s := by
  subst h
  rfl

/-- In DISCARDING a character is passed over (R7). -/
theorem State.takeCharacter_discarding (s : State) (data : Byte) (fault : Bool) (hrx : s.line.rx = .discarding) :
    s.takeCharacter data fault = s := by
  rw [s.takeCharacter_good data fault (by rw [hrx]; rfl), if_neg (by simp [hrx]), hrx]
  exact s.setRx_self _ hrx

/-- A character that shows a cause, after FRAME BEGUN where it is the first, has the frame passed over (R7). -/
theorem State.takeCharacter_bad (s : State) (data : Byte) (fault : Bool) (cause : GarbleCause)
    (h : s.line.rx.causeOf data fault = some cause) :
    s.takeCharacter data fault = (if s.line.rx = .hunting then s.frameBegun else s).discardFrame cause := by
  simp only [State.takeCharacter, h]

/-! ### The attempt that a garbled frame fails (R56, R58, R59) -/

/-- The record of an attempt that has failed as GARBLED and waits for the next. -/
def Exchange.garbledGap (x : Exchange) : Exchange :=
  { x with phase := .retryGap, lastFailure := some .garbled, replyTimer := none, buffer := [], nextIndex := 0 }

/-- A frame found garbled in RECEIVING fails an attempt that is not the last. -/
theorem State.discardFrame_receiving (s : State) (x : Exchange) (cause : GarbleCause) (hx : s.exchange = some x)
    (hphase : x.phase = .receiving) (hlast : x.attempt < 1 + s.loader.params.retryLimit)
    (hidle : s.line.idle ≠ Config.frameGap) :
    s.discardFrame cause
      = { s with line := { s.line with rx := .discarding }, exchange := some x.garbledGap } := by
  rw [State.discardFrame, (s.setRx .discarding).frameEnded_receiving x _ hx hphase]
  exact (s.setRx .discarding).failAttempt_gap x .garbled hlast hidle

/-- A character that shows a cause, in RECEIVING or at the first character of a reply, fails an attempt that is not
the last (R7, R56). -/
theorem State.takeCharacter_garbles (s : State) (x : Exchange) (data : Byte) (fault : Bool) (cause : GarbleCause)
    (hcause : s.line.rx.causeOf data fault = some cause) (hx : s.exchange = some x)
    (hphase : s.line.rx = .hunting ∧ x.phase = .awaiting ∨ s.line.rx ≠ .hunting ∧ x.phase = .receiving)
    (hlast : x.attempt < 1 + s.loader.params.retryLimit) (hidle : s.line.idle ≠ Config.frameGap) :
    s.takeCharacter data fault
      = { s with line := { s.line with rx := .discarding }, exchange := some x.garbledGap } := by
  rw [s.takeCharacter_bad data fault cause hcause]
  obtain ⟨hrx, hawaiting⟩ | ⟨hrx, hreceiving⟩ := hphase
  · rw [if_pos hrx, s.frameBegun_awaiting x hx hawaiting]
    exact State.discardFrame_receiving { s with exchange := some x.begun } x.begun cause rfl rfl hlast hidle
  · rw [if_neg hrx, s.discardFrame_receiving x cause hx hreceiving hlast hidle]

/-- A character that shows a cause on a high line: the command discards the frame and fails the attempt (R7). -/
theorem execCharacterReceived_garbles (s : State) (x : Exchange) (data : Byte) (parity stop : Bool)
    (cause : GarbleCause) (hlow : s.line.low = false)
    (hcause : s.line.rx.causeOf data (characterFault data parity stop) = some cause)
    (hx : s.exchange = some x) (hholdoff : x.holdoffTimer = none)
    (hphase : s.line.rx = .hunting ∧ x.phase = .awaiting ∨ s.line.rx ≠ .hunting ∧ x.phase = .receiving)
    (hlast : x.attempt < 1 + s.loader.params.retryLimit) :
    execCharacterReceived data parity stop s = .next { s with
      line := { s.line with rx := .discarding, idle := 0, low := !stop }, exchange := some x.garbledGap } := by
  have hopen : s.line.rx ≠ .closed := by
    intro h
    simp [h, Receiver.causeOf] at hcause
  have hgap : (s.duringCharacter stop).line.idle ≠ Config.frameGap := (by decide : (0 : Nat) ≠ Config.frameGap)
  rw [execCharacterReceived_open data parity stop s hopen hlow,
    (s.duringCharacter stop).takeCharacter_garbles x data _ cause hcause (s.duringCharacter_exchange_of_no_holdoff stop x hx hholdoff) hphase hlast hgap]
  rfl

end Sys2Proof.Machine
end

section
/-! CLAIM. CHARACTER_RECEIVED and LINE_RETURNS_HIGH. -/

open Sys2Proof Sys2Proof.Machine

/-- Settles O37: a marker begins a frame and is reported FRAME BEGUN; a later character joins the frame. -/
theorem charactersAssembleAFrame : Obligations.CharactersAssembleAFrame := by
  intro s data parity
  refine ⟨fun hrx stop => execCharacterReceived_closed data parity stop s hrx, ?_, ?_⟩
  · intro hrx hlow hdata hfault
    have hopen := execCharacterReceived_open data parity true s (by simp [hrx]) hlow
    subst hdata
    rw [hfault, (s.duringCharacter true).takeCharacter_begins 0xC5#8 hrx rfl] at hopen
    refine ⟨_, hopen, ?_, ?_, ?_, ?_⟩
    · show ({ (s.duringCharacter true).frameBegun.line with rx := _ } : LineInterface) = _
      rw [State.frameBegun_line]
      rfl
    · intro x hx hphase hholdoff
      have hx' := s.duringCharacter_exchange_of_no_holdoff true x hx hholdoff
      rw [State.setRx_exchange, State.frameBegun_awaiting _ x hx' hphase]
      rfl
    · intro hx
      have hx' : (s.duringCharacter true).exchange = none := by simp [hx]
      rw [State.setRx_exchange, State.frameBegun_idle _ hx', hx']
    · exact congrArg (fun t : State => { t with line := s.line, exchange := s.exchange })
        (s.duringCharacter true).frameBegun_rest
  · intro chars hrx hlow hfault hlength
    have hopen := execCharacterReceived_open data parity true s (by simp [hrx]) hlow
    rw [hfault, (s.duringCharacter true).takeCharacter_extends chars data hrx hlength] at hopen
    refine ⟨_, hopen, ?_, fun x hx hholdoff => s.duringCharacter_exchange_of_no_holdoff true x hx hholdoff, rfl⟩
    simp only [State.setRx, State.duringCharacter_line, Receiver.gathering, expectedCharacters, List.length_append,
      List.length_singleton, Bool.not_true]

/-- Settles O38: a character that shows a cause fails the attempt, in DISCARDING none shows one, and the causes are
those of the two tables. -/
theorem garbledCharactersFailTheAttempt : Obligations.GarbledCharactersFailTheAttempt := by
  refine ⟨fun s x data parity stop hlow => ⟨?_, ?_⟩, fun data fault => ⟨?_, ?_, fun _ => rfl, rfl, rfl⟩, ?_,
    fun _ => rfl⟩
  · intro hx hlast hholdoff hcase
    have garbles := fun cause hcause hphase =>
      execCharacterReceived_garbles s x data parity stop cause hlow hcause hx hholdoff hphase hlast
    obtain ⟨hrx, hphase, hbad⟩ | ⟨hphase, ⟨chars, hrx, hbad⟩ | ⟨chars, hrx⟩⟩ := hcase
    · obtain ⟨cause, hcause⟩ := Receiver.causeOf_hunting_bad data _ hbad
      exact garbles cause (hrx ▸ hcause) (.inl ⟨hrx, hphase⟩)
    · obtain ⟨cause, hcause⟩ := Receiver.causeOf_collecting_bad chars data _ hbad
      exact garbles cause (hrx ▸ hcause) (.inr ⟨by simp [hrx], hphase⟩)
    · exact garbles .longFrame (by rw [hrx]; rfl) (.inr ⟨by simp [hrx], hphase⟩)
  · intro hrx
    rw [exec_characterReceived, execCharacterReceived_open data parity stop s (by simp [hrx]) hlow,
      (s.duringCharacter stop).takeCharacter_discarding data _ hrx]
    rfl
  · exact Receiver.causeOf_hunting data fault
  · exact fun chars => Receiver.causeOf_collecting chars data fault
  · intro s data fault cause hcause begun
    have hline : begun.line = s.line := by simp only [begun]; split <;> simp
    calc s.takeCharacter data fault = begun.discardFrame cause := s.takeCharacter_bad data fault cause hcause
      _ = _ := by rw [← hline]; rfl

end

section
/-! SUPPORT. FRAME_CONFIRMATION (R6), and the evaluation of the frame it ends (R7, R8). -/

namespace Sys2Proof.Machine

open Sys2Proof

/-- FRAME_CONFIRMATION is no event where no frame is being received (log 9). -/
theorem execFrameConfirmation_of_none (s : State) (h : s.line.rx.midFrame = false) :
    execFrameConfirmation s = .next s := by
  simp [execFrameConfirmation, h]

/-- The idle count at n, and all else as it was. -/
def State.withIdle (s : State) (n : Nat) : State := { s with line := { s.line with idle := n } }

theorem State.withIdle_rx (s : State) (n : Nat) : (s.withIdle n).line.rx = s.line.rx := rfl

/-- On a high line the idle count comes to 23, and the frame ends there (R6; log 4). -/
theorem execFrameConfirmation_confirms (s : State) (hframe : s.line.rx.midFrame = true) (hlow : s.line.low = false)
    (hidle : s.line.idle ≤ Config.characterGap + 1) (hstopped : s.TimersStopped) :
    execFrameConfirmation s = .next (s.withIdle (Config.characterGap + 1)).confirmFrame := by
  have hline : s.line.elapse (Config.characterGap + 1 - s.line.idle)
      = { s.line with idle := Config.characterGap + 1 } := by
    rw [s.line.elapse_high _ hlow, Nat.add_sub_cancel' hidle]
    rfl
  have hgap : Config.characterGap < (s.line.elapse (Config.characterGap + 1 - s.line.idle)).idle := by
    rw [hline]
    exact Nat.lt_succ_self Config.characterGap
  rw [execFrameConfirmation, if_pos hframe, s.lapse_confirms _ hframe hgap, s.elapse_of_stopped _ hstopped, hline]
  rfl

/-! ### The evaluation of a held frame (R7, R8) -/

/-- A frame with a wrong check is garbled (R7). -/
theorem evaluateFrame_wrong_check (chars : List Byte) (h : crc16 (coveredBytes chars) ≠ checkOf chars) :
    evaluateFrame chars = .garbled .check := by
  simp [evaluateFrame, h]

/-- A good frame to another destination is ignored (R8). -/
theorem evaluateFrame_ignored (chars : List Byte) (hcheck : crc16 (coveredBytes chars) = checkOf chars)
    (hdest : chars.getD 1 0 ≠ Config.selfAddress) : evaluateFrame chars = .ignored := by
  rw [evaluateFrame, if_neg (not_not.mpr hcheck), if_pos hdest]

/-- A good frame to the part is malformed, or valid with what it carries, by its kind and shape (R8). -/
theorem evaluateFrame_to_part (chars : List Byte) (hcheck : crc16 (coveredBytes chars) = checkOf chars)
    (hdest : chars.getD 1 0 = Config.selfAddress) :
    evaluateFrame chars = (replyOf (chars.getD 3 0) ((coveredBytes chars).drop 4)).elim
      (.malformed (chars.getD 2 0)) (.valid (chars.getD 2 0)) := by
  rw [evaluateFrame, if_neg (not_not.mpr hcheck), if_neg (not_not.mpr hdest)]
  cases replyOf (chars.getD 3 0) ((coveredBytes chars).drop 4) <;> rfl

end Sys2Proof.Machine
end

section
/-! CLAIM. FRAME_CONFIRMATION. -/

open Sys2Proof Sys2Proof.Machine

/-- Settles O39: the idle count comes to 23 and the receiver's state says what the frame is; a held one is what its
evaluation finds. -/
theorem frameConfirmationEvaluatesTheFrame : Obligations.FrameConfirmationEvaluatesTheFrame := by
  intro s
  refine ⟨execFrameConfirmation_of_none s, fun hlow hidle hstopped => ?_⟩
  have hconfirm := fun hframe => execFrameConfirmation_confirms s hframe hlow hidle hstopped
  simp only [exec_frameConfirmation]
  refine ⟨fun hrx => ?_, fun chars hrx => ?_, fun chars hrx => ⟨evaluateFrame chars, ?_,
    evaluateFrame_wrong_check chars, fun hcheck => ⟨evaluateFrame_ignored chars hcheck, fun hdest => ?_⟩⟩⟩
  · rw [hconfirm (by rw [hrx]; rfl), State.confirmFrame_discarding _ ((s.withIdle_rx _).trans hrx)]
    rfl
  · rw [hconfirm (by rw [hrx]; rfl), State.confirmFrame_collecting _ chars ((s.withIdle_rx _).trans hrx)]
    rfl
  · rw [hconfirm (by rw [hrx]; rfl), State.confirmFrame_held _ chars ((s.withIdle_rx _).trans hrx)]
    rfl
  · rw [evaluateFrame_to_part chars hcheck hdest]
    exact ⟨fun hnone => by rw [hnone]; rfl, fun reply hsome => by rw [hsome]; rfl⟩

end

section
/-! SUPPORT. The frames of stations, read back (R8, R11, R18-R21). -/

namespace Sys2Proof.Machine

open Sys2Proof

/-! ### The layout of a frame (R11) -/

/-- The bytes that the check of a frame covers. -/
theorem coveredBytes_frameOf (destination source control : Byte) (payload : List Byte) :
    coveredBytes (frameOf destination source control payload)
      = destination :: source :: control :: BitVec.ofNat 8 payload.length :: payload := by
  rw [coveredBytes, frameOf_length]
  exact List.take_left' rfl

/-- A number of two bytes, high byte first, is read back from them. -/
theorem halfOfBytes_bytes (h : Half) : halfOfBytes (h.extractLsb' 8 8) (h.extractLsb' 0 8) = h := by
  refine BitVec.eq_of_getLsbD_eq fun i hi => ?_
  rw [halfOfBytes, BitVec.getLsbD_append]
  split
  · next hlow => simp [hlow]
  · next hlow =>
    have hhigh : i - 8 < 8 := by omega
    simp [hhigh, Nat.add_sub_cancel' (Nat.le_of_not_lt hlow)]

/-- The check that a frame carries is the check of the bytes before it. -/
theorem checkOf_frameOf (destination source control : Byte) (payload : List Byte) :
    checkOf (frameOf destination source control payload)
      = crc16 (destination :: source :: control :: BitVec.ofNat 8 payload.length :: payload) := by
  rw [checkOf, frameOf_length]
  rw [← halfOfBytes_bytes (crc16 _)]
  simp [frameOf, bytesOfHalf]

/-- A frame to the part with its own check is evaluated by its kind and shape alone (R7, R8). -/
theorem evaluateFrame_frameOf (source control : Byte) (payload : List Byte) :
    evaluateFrame (frameOf Config.selfAddress source control payload)
      = (replyOf control payload).elim (.malformed source) (.valid source) := by
  rw [evaluateFrame_to_part _ (by rw [coveredBytes_frameOf, checkOf_frameOf]) rfl, coveredBytes_frameOf]
  rfl

/-! ### The fields of a station frame (R18-R21) -/

theorem halvesOfBytes_length : ∀ bytes : List Byte, (halvesOfBytes bytes).length = bytes.length / 2
  | [] => rfl
  | [_] => by simp [halvesOfBytes]
  | _ :: _ :: rest => by
    simp only [halvesOfBytes, List.length_cons, halvesOfBytes_length rest]
    omega

/-- Value number i stands in bytes 2i and 2i + 1, high byte first (R19). -/
theorem halvesOfBytes_getElem? : ∀ (bytes : List Byte) (i : Nat), i < bytes.length / 2 →
    (halvesOfBytes bytes)[i]? = some (halfOfBytes (bytes.getD (2 * i) 0) (bytes.getD (2 * i + 1) 0))
  | [], _, h => by simp at h
  | [_], _, h => by simp at h
  | _ :: _ :: _, 0, _ => rfl
  | _ :: _ :: rest, i + 1, h =>
    halvesOfBytes_getElem? rest i (by simp only [List.length_cons] at h; omega)

theorem itemsOfBytes_length : ∀ bytes : List Byte, (itemsOfBytes bytes).length = bytes.length / 4
  | [] => rfl
  | [_] => by simp [itemsOfBytes]
  | [_, _] => by simp [itemsOfBytes]
  | [_, _, _] => by simp [itemsOfBytes]
  | _ :: _ :: _ :: _ :: rest => by
    simp only [itemsOfBytes, List.length_cons, itemsOfBytes_length rest]
    omega

/-- Item number i stands in the four bytes from 4i on: its point, then its value (R21). -/
theorem itemsOfBytes_getElem? : ∀ (bytes : List Byte) (i : Nat), i < bytes.length / 4 →
    (itemsOfBytes bytes)[i]? = some ⟨halfOfBytes (bytes.getD (4 * i) 0) (bytes.getD (4 * i + 1) 0),
      halfOfBytes (bytes.getD (4 * i + 2) 0) (bytes.getD (4 * i + 3) 0)⟩
  | [], _, h => by simp at h
  | [_], _, h => by simp at h
  | [_, _], _, h => by simp at h
  | [_, _, _], _, h => by simp at h
  | _ :: _ :: _ :: _ :: _, 0, _ => rfl
  | _ :: _ :: _ :: _ :: rest, i + 1, h =>
    itemsOfBytes_getElem? rest i (by simp only [List.length_cons] at h; omega)

/-! ### Kinds and shapes (R8) -/

/-- The kind code is the low half of the control byte (R192). -/
theorem kind_eq_iff (control : Byte) (kind : BitVec 4) :
    control.extractLsb' 0 4 = kind ↔ control.toNat % 16 = kind.toNat := by
  rw [← BitVec.toNat_inj, BitVec.extractLsb'_toNat]
  rfl

/-- A frame of a station carries a reply: the kind of its control byte, its shape, and where each field stands (R8,
R18-R21). -/
def Reply.CarriedBy (control : Byte) (payload : List Byte) : Reply → Prop
  | .pong capable highest => control.toNat % 16 = 9
    ∧ ∃ flags hi lo, payload = [flags, hi, lo] ∧ capable = flags.getLsbD 0 ∧ highest = halfOfBytes hi lo
  | .answer index values more => control.toNat % 16 = 10
    ∧ ∃ number bytes, payload = number :: bytes
      ∧ (bytes.length % 2 = 0 ∧ 1 ≤ bytes.length / 2 ∧ bytes.length / 2 ≤ 32 ∧ number.toNat ≤ 3)
      ∧ index = number.toNat ∧ values = halvesOfBytes bytes ∧ more = control.getLsbD 5
  | .accept => control.toNat % 16 = 11 ∧ payload = []
  | .refuse reason => control.toNat % 16 = 12 ∧ ∃ byte, payload = [byte] ∧ reason = refuseReason byte
  | .report t more items => control.toNat % 16 = 13
    ∧ ∃ count bytes, payload = count :: bytes
      ∧ (bytes.length % 4 = 0 ∧ 1 ≤ bytes.length / 4 ∧ bytes.length / 4 ≤ 8 ∧ count.toNat = bytes.length / 4)
      ∧ t = control.getLsbD 4 ∧ more = control.getLsbD 5 ∧ items = itemsOfBytes bytes
  | .nothing => control.toNat % 16 = 14 ∧ payload = []

/-- The kind and shape check finds only what the frame carries. -/
theorem carriedBy_of_replyOf (control : Byte) (payload : List Byte) (reply : Reply)
    (h : replyOf control payload = some reply) : reply.CarriedBy control payload := by
  unfold replyOf at h
  simp only [kind_eq_iff] at h
  split at h
  · next hkind =>
    split at h
    · cases h; exact ⟨hkind, _, _, _, rfl, rfl, rfl⟩
    · cases h
  split at h
  · next hkind =>
    split at h
    · split at h
      · next hshape => cases h; exact ⟨hkind, _, _, rfl, hshape, rfl, rfl, rfl⟩
      · cases h
    · cases h
  split at h
  · next hkind =>
    split at h
    · next hempty => cases h; exact ⟨hkind, hempty⟩
    · cases h
  split at h
  · next hkind =>
    split at h
    · cases h; exact ⟨hkind, _, rfl, rfl⟩
    · cases h
  split at h
  · next hkind =>
    split at h
    · split at h
      · next hshape => cases h; exact ⟨hkind, _, _, rfl, hshape, rfl, rfl, rfl⟩
      · cases h
    · cases h
  split at h
  · next hkind =>
    split at h
    · next hempty => cases h; exact ⟨hkind, hempty⟩
    · cases h
  · cases h

/-- The kind and shape check finds what the frame carries. -/
theorem replyOf_of_carriedBy (control : Byte) (payload : List Byte) (reply : Reply)
    (h : reply.CarriedBy control payload) : replyOf control payload = some reply := by
  unfold replyOf
  simp only [kind_eq_iff]
  cases reply with
  | pong capable highest =>
    obtain ⟨hkind, flags, hi, lo, rfl, rfl, rfl⟩ := h
    simp [hkind, kindPong]
  | answer index values more =>
    obtain ⟨hkind, number, bytes, rfl, hshape, rfl, rfl, rfl⟩ := h
    simp [hkind, kindPong, kindAnswer, hshape]
  | accept =>
    obtain ⟨hkind, rfl⟩ := h
    simp [hkind, kindPong, kindAnswer, kindAccept]
  | refuse reason =>
    obtain ⟨hkind, byte, rfl, rfl⟩ := h
    simp [hkind, kindPong, kindAnswer, kindAccept, kindRefuse]
  | report t more items =>
    obtain ⟨hkind, count, bytes, rfl, hshape, rfl, rfl, rfl⟩ := h
    simp [hkind, kindPong, kindAnswer, kindAccept, kindRefuse, kindReport, hshape]
  | nothing =>
    obtain ⟨hkind, rfl⟩ := h
    simp [hkind, kindPong, kindAnswer, kindAccept, kindRefuse, kindReport, kindNothing]

theorem replyOf_eq_some_iff (control : Byte) (payload : List Byte) (reply : Reply) :
    replyOf control payload = some reply ↔ reply.CarriedBy control payload :=
  ⟨carriedBy_of_replyOf control payload reply, replyOf_of_carriedBy control payload reply⟩

/-! ### The fields of the replies, by the bytes of the payload -/

/-- The kinds and the payload lengths that carry a reply (R8, Section 10.1). -/
theorem replyOf_isSome_iff (control : Byte) (payload : List Byte) :
    (replyOf control payload).isSome = true ↔
      (control.toNat % 16 = 9 ∧ payload.length = 3)
      ∨ (control.toNat % 16 = 10 ∧ (∃ m, 1 ≤ m ∧ m ≤ 32 ∧ payload.length = 1 + 2 * m) ∧ (payload.getD 0 0).toNat ≤ 3)
      ∨ (control.toNat % 16 = 11 ∧ payload.length = 0) ∨ (control.toNat % 16 = 12 ∧ payload.length = 1)
      ∨ (control.toNat % 16 = 13
        ∧ ∃ m, 1 ≤ m ∧ m ≤ 8 ∧ payload.length = 1 + 4 * m ∧ (payload.getD 0 0).toNat = m)
      ∨ (control.toNat % 16 = 14 ∧ payload.length = 0) := by
  simp only [Option.isSome_iff_exists, replyOf_eq_some_iff]
  constructor
  · rintro ⟨reply, h⟩
    cases reply with
    | pong capable highest =>
      obtain ⟨hkind, flags, hi, lo, rfl, -, -⟩ := h
      exact .inl ⟨hkind, rfl⟩
    | answer index values more =>
      obtain ⟨hkind, number, bytes, rfl, ⟨heven, hone, hmost, hnumber⟩, -⟩ := h
      refine .inr (.inl ⟨hkind, ⟨bytes.length / 2, hone, hmost, ?_⟩, hnumber⟩)
      rw [List.length_cons]
      omega
    | accept =>
      obtain ⟨hkind, rfl⟩ := h
      exact .inr (.inr (.inl ⟨hkind, rfl⟩))
    | refuse reason =>
      obtain ⟨hkind, byte, rfl, -⟩ := h
      exact .inr (.inr (.inr (.inl ⟨hkind, rfl⟩)))
    | report t more items =>
      obtain ⟨hkind, count, bytes, rfl, ⟨hfour, hone, hmost, hcount⟩, -⟩ := h
      refine .inr (.inr (.inr (.inr (.inl ⟨hkind, bytes.length / 4, hone, hmost, ?_, hcount⟩))))
      rw [List.length_cons]
      omega
    | nothing =>
      obtain ⟨hkind, rfl⟩ := h
      exact .inr (.inr (.inr (.inr (.inr ⟨hkind, rfl⟩))))
  · rintro (⟨hkind, h⟩ | ⟨hkind, ⟨m, hone, hmost, h⟩, hnumber⟩ | ⟨hkind, h⟩ | ⟨hkind, h⟩
      | ⟨hkind, m, hone, hmost, h, hcount⟩ | ⟨hkind, h⟩)
    · obtain ⟨flags, hi, lo, rfl⟩ := List.length_eq_three.mp h
      exact ⟨.pong _ _, hkind, flags, hi, lo, rfl, rfl, rfl⟩
    · obtain ⟨number, bytes, rfl⟩ := List.exists_cons_of_length_pos (l := payload) (by omega)
      rw [List.length_cons] at h
      exact ⟨.answer _ _ _, hkind, number, bytes, rfl, ⟨by omega, by omega, by omega, hnumber⟩, rfl, rfl, rfl⟩
    · exact ⟨.accept, hkind, List.length_eq_zero_iff.mp h⟩
    · obtain ⟨byte, rfl⟩ := List.length_eq_one_iff.mp h
      exact ⟨.refuse _, hkind, byte, rfl, rfl⟩
    · obtain ⟨count, bytes, rfl⟩ := List.exists_cons_of_length_pos (l := payload) (by omega)
      rw [List.length_cons] at h
      exact ⟨.report _ _ _, hkind, count, bytes, rfl, ⟨by omega, by omega, by omega, hcount.trans (by omega)⟩,
        rfl, rfl, rfl⟩
    · exact ⟨.nothing, hkind, List.length_eq_zero_iff.mp h⟩

/-- The values of an ANSWER stand behind its fragment index, two bytes each (R19). -/
theorem answer_values (number : Byte) (bytes : List Byte) (heven : bytes.length % 2 = 0) :
    (number :: bytes).length = 1 + 2 * (halvesOfBytes bytes).length
    ∧ ∀ i, i < (halvesOfBytes bytes).length → (halvesOfBytes bytes).getD i 0
      = (number :: bytes).getD (1 + 2 * i) 0 ++ (number :: bytes).getD (2 + 2 * i) 0 := by
  rw [halvesOfBytes_length, List.length_cons]
  refine ⟨by omega, fun i hi => ?_⟩
  rw [List.getD_eq_getElem?_getD, halvesOfBytes_getElem? bytes i hi, Nat.add_comm 1, Nat.add_comm 2]
  rfl

/-- The items of a REPORT stand behind its item count, four bytes each (R21). -/
theorem report_items (count : Byte) (bytes : List Byte) (hfour : bytes.length % 4 = 0) :
    (count :: bytes).length = 1 + 4 * (itemsOfBytes bytes).length
    ∧ ∀ i, i < (itemsOfBytes bytes).length → (itemsOfBytes bytes)[i]?
      = some ⟨(count :: bytes).getD (1 + 4 * i) 0 ++ (count :: bytes).getD (2 + 4 * i) 0,
        (count :: bytes).getD (3 + 4 * i) 0 ++ (count :: bytes).getD (4 + 4 * i) 0⟩ := by
  rw [itemsOfBytes_length, List.length_cons]
  refine ⟨by omega, fun i hi => ?_⟩
  rw [itemsOfBytes_getElem? bytes i hi, Nat.add_comm 1, Nat.add_comm 2, Nat.add_comm 3, Nat.add_comm 4]
  rfl

end Sys2Proof.Machine
end

section
/-! CLAIM. The frames of stations. -/

open Sys2Proof Sys2Proof.Machine

/-- Settles O51: the layout gives the kind and shape check the bytes it was built from, and that check finds exactly
what they carry. -/
theorem stationFramesEvaluateBack : Obligations.StationFramesEvaluateBack := by
  refine ⟨fun source control payload _ => ?_, fun control payload => ⟨replyOf_isSome_iff control payload, ?_⟩⟩
  · refine (evaluateFrame_frameOf source control payload).trans ?_
    cases replyOf control payload <;> rfl
  · intro reply hreply
    have h := carriedBy_of_replyOf control payload reply hreply
    cases reply with
    | pong capable highest =>
      obtain ⟨hkind, flags, hi, lo, rfl, rfl, rfl⟩ := h
      exact ⟨hkind, rfl, rfl⟩
    | answer index values more =>
      obtain ⟨hkind, number, bytes, rfl, ⟨heven, -⟩, rfl, rfl, rfl⟩ := h
      exact ⟨hkind, rfl, rfl, answer_values number bytes heven⟩
    | accept => exact h.1
    | refuse reason =>
      obtain ⟨hkind, byte, rfl, rfl⟩ := h
      exact ⟨hkind, rfl⟩
    | report t more items =>
      obtain ⟨hkind, count, bytes, rfl, ⟨hfour, -⟩, rfl, rfl, rfl⟩ := h
      exact ⟨hkind, rfl, rfl, report_items count bytes hfour⟩
    | nothing => exact h.1

end

section
/-! SUPPORT. The stations beside the part: what an ack, a PING, a POLL and a WRITE leave of a station (R23, R25,
R26). -/

namespace Sys2Proof.Machine

open Sys2Proof

/-! ### Acks (R25, R26) -/

/-- After an ack the sequence bit is the other of the K that came: it flips when K was the bit, and stands so already
when it was not. -/
@[simp] theorem Station.acked_sequence (st : Station) (k : Bool) : (st.acked k).sequence = !k := by
  unfold Station.acked
  split
  · next h => rw [h]
  · next h => exact Bool.eq_not.mpr (Ne.symm h)

/-- An ack takes the head when K is the sequence bit. -/
@[simp] theorem Station.acked_reports (st : Station) (k : Bool) :
    (st.acked k).reports = if k = st.sequence then st.reports.tail else st.reports := by
  unfold Station.acked
  split <;> rfl

@[simp] theorem Station.acked_toggle (st : Station) (k : Bool) : (st.acked k).toggle = st.toggle := by
  unfold Station.acked
  split <;> rfl

/-- A PING with V = 1 carries an ack, and leaves no toggle (R26). -/
theorem Station.ping_acks (st : Station) (k : Bool) :
    (st.ping k true).1 = ({ st with toggle := none } : Station).acked k := rfl

/-- A PING with V = 0 starts the sequence again, and leaves no toggle (R26). -/
theorem Station.ping_restarts (st : Station) (k : Bool) :
    (st.ping k false).1 = { st with toggle := none, sequence := false } := rfl

theorem Station.ping_toggle (st : Station) (k v : Bool) : (st.ping k v).1.toggle = none := by
  cases v with
  | false => rfl
  | true => rw [Station.ping_acks, Station.acked_toggle]

/-- A POLL that a report-capable station takes carries an ack (R25). -/
theorem Station.poll_acks (st : Station) (k : Bool) (h : st.capable = true) : (st.poll k).1 = st.acked k := by
  simp [Station.poll, h]

/-! ### Addressed WRITEs (R23) -/

/-- The ACCEPT of a station. -/
def Station.acceptance (st : Station) : List (List Byte) :=
  [st.frame (controlByte false false false false kindAccept) []]

/-- The station after it has applied a WRITE. -/
def Station.applied (st : Station) (f : Heard) : Station :=
  { st with points := Station.setPoints st.points f.first f.values, toggle := some f.t }

/-- A duplicate is accepted and not applied. -/
theorem Station.write_duplicate (st : Station) (f : Heard) (h : st.toggle = some f.t) :
    st.write f = (st, st.acceptance) := by
  simp [Station.write, Station.acceptance, h]

/-- A new WRITE within the station's points is applied and accepted. -/
theorem Station.write_new (st : Station) (f : Heard) (h : st.toggle ≠ some f.t)
    (hpoints : f.first + f.count ≤ st.points.length) : st.write f = (st.applied f, st.acceptance) := by
  simp [Station.write, Station.acceptance, Station.applied, h, Nat.not_lt.mpr hpoints]

/-- The same WRITE again, once taken, is a duplicate. -/
theorem Station.applied_write (st : Station) (f : Heard) : (st.applied f).write f = (st.applied f, st.acceptance) :=
  (st.applied f).write_duplicate f rfl

end Sys2Proof.Machine
end

section
/-! CLAIM. The sequencing of stations. -/

open Sys2Proof Sys2Proof.Machine

/-- Settles O53: PINGs with V = 1 and POLLs are acks; and of a WRITE the station has, before it or after it, the
toggle. -/
theorem stationsSequenceReportsAndWrites : Obligations.StationsSequenceReportsAndWrites := by
  refine ⟨fun st k v => ⟨⟨?_, ?_, st.ping_toggle k v⟩, ?_, fun hcapable => ?_⟩, fun st f hpoints => ?_⟩
  · rw [st.ping_acks, Station.acked_sequence]
  · rw [st.ping_acks, Station.acked_reports]
  · rw [st.ping_restarts]
    exact ⟨rfl, rfl⟩
  · rw [st.poll_acks k hcapable]
    exact ⟨st.acked_sequence k, st.acked_reports k, st.acked_toggle k⟩
  · by_cases htoggle : st.toggle = some f.t
    · rw [st.write_duplicate f htoggle]
      exact ⟨rfl, htoggle, fun hnew => absurd htoggle hnew, st.write_duplicate f htoggle⟩
    · rw [st.write_new f htoggle hpoints]
      exact ⟨rfl, rfl, fun _ => rfl, st.applied_write f⟩

end

section
/-! SUPPORT. The rules of the Station Table: what an entry is after each change of the table, and what a change of an
entry's state hands to the attached ports (R27, R37). -/

namespace Sys2Proof.Machine

open Sys2Proof

/-! ### Reading and writing entries -/

/-- An entry in use stands in a slot of the table. -/
theorem State.lt_of_entry (s : State) {k : Nat} {e : Entry} (h : s.entry k = some e) : k < s.table.length := by
  by_contra hk
  rw [State.entry, List.getD_eq_default _ _ (Nat.le_of_not_lt hk)] at h
  cases h

/-- The entries are those of the table alone. -/
theorem State.entry_congr {s t : State} (h : t.table = s.table) (k : Nat) : t.entry k = s.entry k := by
  rw [State.entry, State.entry, h]

/-- A slot in use is written in place. -/
theorem State.setEntry_entry_of_some (s : State) {k : Nat} {e : Entry} (h : s.entry k = some e) (o : Option Entry)
    (j : Nat) : (s.setEntry k o).entry j = if j = k then o else s.entry j :=
  s.setEntry_entry k j o (s.lt_of_entry h)

theorem State.updEntry_of_some (s : State) {k : Nat} {e : Entry} (h : s.entry k = some e) (f : Entry → Entry) :
    s.updEntry k f = s.setEntry k (some (f e)) := by
  simp [State.updEntry, h]

/-- A change of every entry in use is read slot by slot. -/
theorem State.entry_of_table_map {s t : State} {f : Entry → Entry} (h : t.table = s.table.map (Option.map f))
    (k : Nat) : t.entry k = (s.entry k).map f := by
  simp only [State.entry, h, List.getD_eq_getElem?_getD, List.getElem?_map]
  cases s.table[k]? <;> rfl

/-! ### A change of an entry's state (R37) -/

/-- The entry after its state field has taken a value: with a change the attached ports join the changed set. -/
def Entry.changedTo (e : Entry) (state : StationState) : Entry :=
  { e with state := state, changed := if state = e.state then e.changed else PortSet.union e.changed e.attached }

theorem State.changeState_of_same (s : State) {k : Nat} {e : Entry} (h : s.entry k = some e) :
    s.changeState k e.state = s := by
  simp [State.changeState, h]

theorem State.changeState_of_ne (s : State) {k : Nat} {e : Entry} (h : s.entry k = some e) {state : StationState}
    (hne : e.state ≠ state) :
    s.changeState k state = (s.setEntry k (some (e.changedTo state))).notice e.attached Sticky.setChanged := by
  simp [State.changeState, h, hne, Entry.changedTo, Ne.symm hne]

theorem State.changeState_entry (s : State) {k : Nat} {e : Entry} (h : s.entry k = some e) (state : StationState)
    (j : Nat) : (s.changeState k state).entry j = if j = k then some (e.changedTo state) else s.entry j := by
  by_cases hne : e.state = state
  · subst hne
    rw [s.changeState_of_same h]
    split
    · subst j; simp [h, Entry.changedTo]
    · rfl
  · rw [s.changeState_of_ne h hne]
    exact s.setEntry_entry_of_some h _ j

/-- With a change of state each attached port has CHANGED set (R37). -/
theorem State.changeState_port (s : State) {k : Nat} {e : Entry} (h : s.entry k = some e) (state : StationState)
    (q : Port) : (s.changeState k state).port q
      = if e.state ≠ state ∧ e.attached.get q = true then
          { s.port q with sticky := (s.port q).sticky.setChanged } else s.port q := by
  by_cases hne : e.state = state
  · subst hne; simp [s.changeState_of_same h]
  · rw [s.changeState_of_ne h hne, State.notice_port]
    simp only [hne, ne_eq, not_false_eq_true, true_and]
    rfl

end Sys2Proof.Machine
end

section
/-! SUPPORT. The form of the Station Table (R27, R37, R47): each change of the table keeps it. -/

namespace Sys2Proof.Machine

open Sys2Proof

/-! ### The form of one entry -/

/-- What the form of the table asks of one entry in use (R27, R37, R47). -/
structure Entry.Wf (e : Entry) : Prop where
  address : stationAddress e.address = true
  attached : PortSet.isEmpty e.attached = false
  gaps : ∀ p, e.gaps.get p = true → e.attached.get p = true
  changed : ∀ p, e.changed.get p = true → e.attached.get p = true

theorem TableInv.wf {s : State} (h : TableInv s) {k : Nat} {e : Entry} (he : s.entry k = some e) : e.Wf :=
  ⟨h.address k e he, h.attached k e he, fun p => h.gaps k e p he, fun p => h.changed k e p he⟩

/-- The address and the three sets of ports are the same: all that the form of the table speaks of. -/
def Entry.SameForm (e f : Entry) : Prop :=
  f.address = e.address ∧ f.attached = e.attached ∧ f.gaps = e.gaps ∧ f.changed = e.changed

theorem Entry.Wf.of_sameForm {e f : Entry} (h : e.Wf) (hsame : e.SameForm f) : f.Wf := by
  obtain ⟨haddress, hattached, hgaps, hchanged⟩ := hsame
  exact ⟨by rw [haddress]; exact h.address, by rw [hattached]; exact h.attached,
    by rw [hgaps, hattached]; exact h.gaps, by rw [hchanged, hattached]; exact h.changed⟩

theorem PortSet.isEmpty_false_iff (a : PortSet) : PortSet.isEmpty a = false ↔ ∃ p, a.get p = true := by
  constructor
  · intro h
    by_contra hnone
    have hall : ∀ p, a.get p = false := by simpa using hnone
    obtain ⟨h0, h1, h2, h3⟩ := Quad.forall_fin.mp hall
    simp only [Quad.get] at h0 h1 h2 h3
    simp [PortSet.isEmpty, h0, h1, h2, h3] at h
  · rintro ⟨p, hp⟩
    by_contra hempty
    have hnone : ∀ q, a.get q = false := by
      rw [Quad.forall_fin]
      simpa [PortSet.isEmpty, Quad.get, and_assoc] using hempty
    rw [hnone p] at hp
    cases hp

@[simp] theorem PortSet.get_union (a b : PortSet) (p : Port) :
    (PortSet.union a b).get p = (a.get p || b.get p) := Quad.get_zip _ _ _ _

@[simp] theorem PortSet.get_empty (p : Port) : PortSet.empty.get p = false := Quad.get_fill _ _

theorem PortSet.get_remove (a : PortSet) (p q : Port) :
    (PortSet.remove a p).get q = if q = p then false else a.get q := Quad.get_set _ _ _ _

theorem PortSet.isEmpty_single (p : Port) : PortSet.isEmpty (PortSet.single p) = false :=
  (PortSet.isEmpty_false_iff _).mpr ⟨p, Quad.get_set_same _ _ _⟩

/-- A set with a port more than one that is not empty is not empty. -/
theorem PortSet.isEmpty_of_subset {a b : PortSet} (h : PortSet.isEmpty a = false)
    (hsub : ∀ p, a.get p = true → b.get p = true) : PortSet.isEmpty b = false := by
  obtain ⟨p, hp⟩ := (PortSet.isEmpty_false_iff a).mp h
  exact (PortSet.isEmpty_false_iff b).mpr ⟨p, hsub p hp⟩

theorem newEntry_wf {a : Byte} {ports : PortSet} (ha : stationAddress a = true)
    (hports : PortSet.isEmpty ports = false) : (newEntry a ports).Wf :=
  ⟨ha, hports, by simp [newEntry], by simp [newEntry]⟩

/-- A port that joins the attached set takes nothing from the form (R29). -/
theorem Entry.Wf.attach {e : Entry} (h : e.Wf) (p : Port) :
    ({ e with attached := e.attached.set p true } : Entry).Wf := by
  have hsub : ∀ q, e.attached.get q = true → (e.attached.set p true).get q = true := by
    intro q hq
    rw [Quad.get_set]
    split
    · rfl
    · exact hq
  exact ⟨h.address, PortSet.isEmpty_of_subset h.attached hsub, fun q hq => hsub q (h.gaps q hq),
    fun q hq => hsub q (h.changed q hq)⟩

/-- The entry that a port has left (R43). -/
def Entry.without (e : Entry) (p : Port) : Entry :=
  { e with
    attached := PortSet.remove e.attached p
    changed := PortSet.remove e.changed p
    gaps := PortSet.remove e.gaps p }

/-- A port that leaves an entry leaves its gap marks and changed set as well (R43). -/
theorem Entry.Wf.without {e : Entry} (h : e.Wf) (p : Port) (hleft : PortSet.isEmpty (e.without p).attached = false) :
    (e.without p).Wf := by
  have hremove : ∀ a : PortSet, (∀ q, a.get q = true → e.attached.get q = true) →
      ∀ q, (PortSet.remove a p).get q = true → (PortSet.remove e.attached p).get q = true := by
    intro a ha q
    rw [PortSet.get_remove, PortSet.get_remove]
    split
    · exact id
    · exact ha q
  exact ⟨h.address, hleft, hremove e.gaps h.gaps, hremove e.changed h.changed⟩

/-- A port that leaves the changed set takes nothing from the form (R158). -/
theorem Entry.Wf.clearChanged {e : Entry} (h : e.Wf) (p : Port) :
    ({ e with changed := PortSet.remove e.changed p } : Entry).Wf := by
  refine ⟨h.address, h.attached, h.gaps, fun q hq => ?_⟩
  rw [PortSet.get_remove] at hq
  split at hq
  · cases hq
  · exact h.changed q hq

theorem Entry.Wf.changedTo {e : Entry} (h : e.Wf) (state : StationState) : (e.changedTo state).Wf := by
  refine ⟨h.address, h.attached, h.gaps, fun q hq => ?_⟩
  simp only [Entry.changedTo] at hq
  split at hq
  · exact h.changed q hq
  · rw [PortSet.get_union, Bool.or_eq_true] at hq
    exact hq.elim (h.changed q) id

theorem Entry.Wf.restarted {e : Entry} (h : e.Wf) (interval : Nat) : (e.restarted interval).Wf :=
  ⟨h.address, h.attached, by simp [Entry.restarted], h.changed⟩

/-! ### The form of the table -/

/-- The form of the table speaks of the table alone. -/
theorem TableInv.of_table {s t : State} (h : TableInv s) (ht : t.table = s.table) : TableInv t := by
  have hentry := State.entry_congr ht
  exact ⟨by rw [ht]; exact h.slots, fun k e he => h.address k e (by rw [← hentry]; exact he),
    fun k e he => h.attached k e (by rw [← hentry]; exact he),
    fun j k e f he hf => h.distinct j k e f (by rw [← hentry]; exact he) (by rw [← hentry]; exact hf),
    fun k e p he => h.gaps k e p (by rw [← hentry]; exact he),
    fun k e p he => h.changed k e p (by rw [← hentry]; exact he)⟩

/-- A table whose entries stand where entries of the same addresses stood has its form when each entry has. -/
theorem TableInv.of_entries {s t : State} (h : TableInv s) (hlength : t.table.length = s.table.length)
    (hentry : ∀ k f, t.entry k = some f → f.Wf ∧ ∃ e, s.entry k = some e ∧ e.address = f.address) : TableInv t := by
  refine ⟨hlength.trans h.slots, fun k f hf => (hentry k f hf).1.address, fun k f hf => (hentry k f hf).1.attached, ?_,
    fun k f p hf => (hentry k f hf).1.gaps p, fun k f p hf => (hentry k f hf).1.changed p⟩
  intro j k f g hf hg hfg
  obtain ⟨-, e, he, hef⟩ := hentry j f hf
  obtain ⟨-, e', he', heg⟩ := hentry k g hg
  exact h.distinct j k e e' he he' (by rw [hef, heg, hfg])

/-- An entry that is written over one of the same address. -/
theorem TableInv.setEntry {s : State} (h : TableInv s) {k : Nat} {e f : Entry} (he : s.entry k = some e)
    (haddress : f.address = e.address) (hf : f.Wf) : TableInv (s.setEntry k (some f)) := by
  refine h.of_entries (s.setEntry_table_length k _) fun j g hg => ?_
  rw [s.setEntry_entry_of_some he] at hg
  split at hg
  · cases hg; subst j; exact ⟨hf, e, he, haddress.symm⟩
  · exact ⟨h.wf hg, g, hg, rfl⟩

theorem TableInv.updEntry {s : State} (h : TableInv s) {k : Nat} {f : Entry → Entry}
    (hf : ∀ e, s.entry k = some e → (f e).address = e.address ∧ (f e).Wf) : TableInv (s.updEntry k f) := by
  cases he : s.entry k with
  | none => exact h.of_table (by simp [State.updEntry, he])
  | some e =>
    rw [s.updEntry_of_some he]
    exact h.setEntry he (hf e he).1 (hf e he).2

/-- A slot that becomes FREE (R44). -/
theorem TableInv.clearEntry {s t : State} (h : TableInv s) {k : Nat} (ht : t.table = s.table.set k none) :
    TableInv t := by
  refine h.of_entries (by rw [ht, List.length_set]) fun j f hf => ?_
  have hentry : t.entry j = (s.setEntry k none).entry j := State.entry_congr (s := s.setEntry k none) ht j
  rw [hentry] at hf
  by_cases hk : k < s.table.length
  · rw [s.setEntry_entry k j none hk] at hf
    split at hf
    · cases hf
    · exact ⟨h.wf hf, f, hf, rfl⟩
  · have hsame : s.setEntry k none = s := by
      simp [State.setEntry, List.set_eq_of_length_le (Nat.le_of_not_lt hk)]
    rw [hsame] at hf
    exact ⟨h.wf hf, f, hf, rfl⟩

/-- A change of every entry in use. -/
theorem TableInv.map_entries {s t : State} (h : TableInv s) {f : Entry → Entry}
    (ht : t.table = s.table.map (Option.map f)) (hf : ∀ e : Entry, e.Wf → (f e).address = e.address ∧ (f e).Wf) :
    TableInv t := by
  refine h.of_entries (by rw [ht, List.length_map]) fun k g hg => ?_
  rw [State.entry_of_table_map ht] at hg
  obtain ⟨e, he, rfl⟩ := Option.map_eq_some_iff.mp hg
  exact ⟨(hf e (h.wf he)).2, e, he, (hf e (h.wf he)).1.symm⟩

/-! ### Creation and attachment (R28, R29, R30) -/

/-- No entry in use holds an address for which no slot is found (R27). -/
theorem State.address_ne_of_slotOf (s : State) {a : Byte} (h : s.slotOf a = none) {k : Nat} {e : Entry}
    (he : s.entry k = some e) : e.address ≠ a := by
  have hk := s.lt_of_entry he
  rw [State.slotOf, List.findIdx?_eq_none_iff] at h
  rw [State.entry, List.getD_eq_getElem _ _ hk] at he
  have hfind := h _ (List.getElem_mem hk)
  rw [he] at hfind
  simpa using hfind

/-- The lowest-numbered FREE slot is a slot of the table (R29). -/
theorem State.lt_of_freeSlot (s : State) {k : Nat} (h : s.freeSlot = some k) : k < s.table.length := by
  rw [State.freeSlot, List.findIdx?_eq_some_iff_getElem] at h
  obtain ⟨hk, -⟩ := h
  exact hk

/-- The creation of an entry whose address is new to the table (R28). -/
theorem TableInv.createEntry {s : State} (h : TableInv s) {k : Nat} {a : Byte} {ports : PortSet}
    (hfree : s.freeSlot = some k) (hnew : s.slotOf a = none) (ha : stationAddress a = true)
    (hports : PortSet.isEmpty ports = false) : TableInv (s.createEntry k a ports) := by
  have hentry : ∀ j, (s.createEntry k a ports).entry j = if j = k then some (newEntry a ports) else s.entry j :=
    fun j => s.setEntry_entry k j _ (s.lt_of_freeSlot hfree)
  have hwf : ∀ j f, (s.createEntry k a ports).entry j = some f → f.Wf := by
    intro j f hf
    rw [hentry] at hf
    split at hf
    · cases hf; exact newEntry_wf ha hports
    · exact h.wf hf
  refine ⟨(s.setEntry_table_length k _).trans h.slots, fun j f hf => (hwf j f hf).address,
    fun j f hf => (hwf j f hf).attached, ?_, fun j f p hf => (hwf j f hf).gaps p,
    fun j f p hf => (hwf j f hf).changed p⟩
  intro i j f g hf hg hfg
  rw [hentry] at hf hg
  split at hf <;> split at hg
  · subst i j; rfl
  · cases hf; exact absurd hfg.symm (s.address_ne_of_slotOf hnew hg)
  · cases hg; exact absurd hfg (s.address_ne_of_slotOf hnew hf)
  · exact h.distinct i j f g hf hg hfg

theorem TableInv.attachClaim {s : State} (h : TableInv s) (p : Port) {a : Byte} (ha : stationAddress a = true) :
    TableInv (s.attachClaim p a).1 := by
  unfold State.attachClaim
  cases hslot : s.slotOf a with
  | none =>
    cases hfree : s.freeSlot with
    | none => exact h
    | some k => exact h.createEntry hfree hslot ha (PortSet.isEmpty_single p)
  | some k =>
    obtain ⟨e, he, -⟩ := s.slotOf_spec hslot
    simp only [he]
    split
    · exact h
    · exact h.setEntry he rfl ((h.wf he).attach p)

/-! ### Leaving and freeing (R43, R44, R46) -/

theorem TableInv.leaveEntry {s : State} (h : TableInv s) (p : Port) (k : Nat) : TableInv (s.leaveEntry p k) := by
  unfold State.leaveEntry
  cases he : s.entry k with
  | none => exact h
  | some e =>
    simp only
    split
    · split
      · exact h.clearEntry (k := k) (by simp [State.freeEntry, State.setEntry])
      next hleft =>
        have hwithout : (e.without p).Wf := (h.wf he).without p (by simpa [Entry.without] using hleft)
        exact (h.setEntry (f := e.without p) he rfl hwithout).of_table rfl
    · exact h

theorem TableInv.leaveAll {s : State} (h : TableInv s) (p : Port) : TableInv (s.leaveAll p) :=
  List.foldlRecOn (motive := TableInv) _ _ h fun _ ht k _ => ht.leaveEntry p k

/-! ### The station state machine (R31-R36) -/

theorem TableInv.changeState {s : State} (h : TableInv s) (k : Nat) (state : StationState) :
    TableInv (s.changeState k state) := by
  cases he : s.entry k with
  | none => exact h.of_table (by simp [State.changeState, he])
  | some e =>
    by_cases hne : e.state = state
    · subst hne; rw [s.changeState_of_same he]; exact h
    · rw [s.changeState_of_ne he hne]
      exact (h.setEntry (f := e.changedTo state) he rfl ((h.wf he).changedTo state)).of_table rfl

theorem TableInv.setEntry_sameForm {s : State} (h : TableInv s) {k : Nat} {e f : Entry} (he : s.entry k = some e)
    (hf : e.SameForm f) : TableInv (s.setEntry k (some f)) :=
  h.setEntry he hf.1 ((h.wf he).of_sameForm hf)

theorem TableInv.updEntry_sameForm {s : State} (h : TableInv s) {k : Nat} {f : Entry → Entry}
    (hf : ∀ e : Entry, e.SameForm (f e)) : TableInv (s.updEntry k f) :=
  h.updEntry fun e he => ⟨(hf e).1, (h.wf he).of_sameForm (hf e)⟩

theorem TableInv.heard {s : State} (h : TableInv s) (k : Nat) : TableInv (s.heard k) := by
  unfold State.heard
  cases he : s.entry k with
  | none => exact h
  | some e =>
    have hzero : TableInv (s.setEntry k (some { e with failures := 0 })) :=
      h.setEntry_sameForm he ⟨rfl, rfl, rfl, rfl⟩
    cases hstate : e.state <;> simp only [hstate]
    case online => rw [hstate] at hzero; exact hzero
    case suspect => rw [hstate] at hzero; exact hzero.changeState k .online
    all_goals exact h

theorem TableInv.countFailure {s : State} (h : TableInv s) {k : Nat} {e : Entry} (he : s.entry k = some e)
    (sentWrite : Bool) : TableInv (s.countFailure k e sentWrite) := by
  simp only [State.countFailure]
  split
  · refine TableInv.of_table (TableInv.changeState ?_ k .offline) (State.breakWatches_table _ _ _ _)
    exact h.setEntry_sameForm he ⟨rfl, rfl, rfl, rfl⟩
  · refine TableInv.changeState ?_ k .suspect
    exact h.setEntry_sameForm he ⟨rfl, rfl, rfl, rfl⟩

theorem TableInv.probeEnd {s : State} (h : TableInv s) (k : Nat) (o : Final) : TableInv (s.probeEnd k o) := by
  unfold State.probeEnd
  split
  all_goals
    refine TableInv.changeState ?_ k _
    exact h.updEntry_sameForm fun _ => ⟨rfl, rfl, rfl, rfl⟩

theorem TableInv.reprobeEnd {s : State} (h : TableInv s) (k : Nat) (o : Final) : TableInv (s.reprobeEnd k o) := by
  unfold State.reprobeEnd
  split
  · refine TableInv.changeState ?_ k _
    exact h.updEntry_sameForm fun _ => ⟨rfl, rfl, rfl, rfl⟩
  · exact h.updEntry_sameForm fun _ => ⟨rfl, rfl, rfl, rfl⟩

theorem TableInv.outcomeClaim {s : State} (h : TableInv s) (k : Nat) (x : Exchange) (o : Final) :
    TableInv (s.outcomeClaim k x o) := by
  unfold State.outcomeClaim
  cases he : s.entry k with
  | none => exact h
  | some e =>
    simp only
    split
    · split
      · exact h.setEntry_sameForm he ⟨rfl, rfl, rfl, rfl⟩
      · exact h.countFailure he _
      · exact h.countFailure he _
      · exact h
    · exact h

theorem TableInv.tableTakesEnd {s : State} (h : TableInv s) (x : Exchange) (o : Final) :
    TableInv (s.tableTakesEnd x o) := by
  unfold State.tableTakesEnd
  cases x.slot with
  | none => exact h
  | some k =>
    cases x.purpose with
    | probe => exact h.probeEnd k o
    | reprobe => exact h.reprobeEnd k o
    | resync => exact h.outcomeClaim k x o
    | poll => exact h.outcomeClaim k x o
    | request => exact h.outcomeClaim k x o

/-! ### The gap marks (R130) -/

theorem TableInv.route {s : State} (h : TableInv s) (k : Nat) (station : Byte) (items : List Item) :
    TableInv (s.route k station items) := by
  unfold State.route
  cases he : s.entry k with
  | none => exact h
  | some e =>
    refine TableInv.updEntry ?_ ?_
    · exact h.of_table rfl
    intro f hf
    have hef : f = e := Option.some.inj (hf.symm.trans he)
    subst hef
    refine ⟨rfl, (h.wf he).address, (h.wf he).attached, fun p hp => ?_, (h.wf he).changed⟩
    rw [Quad.get_ofFn] at hp
    split at hp
    · assumption
    · exact (h.wf he).gaps p hp

end Sys2Proof.Machine
end

section
/-! SUPPORT. The Arbiter's choice starts exchanges and ends requests, and leaves the Station Table as it is (R79,
R80). -/

namespace Sys2Proof.Machine

open Sys2Proof

@[simp] theorem State.startRequest_table (s : State) (p : Port) (r : Request) (x : Exchange) :
    (s.startRequest p r x).table = s.table := by
  simp only [State.startRequest]
  split <;> rfl

@[simp] theorem State.walkCursor_table (fuel : Nat) (s : State) : (State.walkCursor fuel s).table = s.table := by
  induction fuel generalizing s with
  | zero => rfl
  | succ fuel ih =>
    unfold State.walkCursor
    split
    · split
      · split
        · rfl
        · rw [ih]
      · rw [ih]
    · rfl

@[simp] theorem State.startService_table (s : State) (item : ServiceItem) (rest : List ServiceItem) :
    (s.startService item rest).table = s.table := by
  simp only [State.startService]
  split
  · rfl
  · cases item.purpose <;> rfl

@[simp] theorem State.checkHead_table (s : State) (p : Port) (r : Request) : (s.checkHead p r).1.table = s.table := by
  unfold State.checkHead
  split
  · rfl
  · split
    · simp only [State.watchCheck]
      split
      · rfl
      · split <;> rfl
    · rfl

@[simp] theorem State.startHead_table (s : State) (p : Port) (r : Request) : (s.startHead p r).table = s.table := by
  unfold State.startHead
  split
  · simp
  · split
    · rfl
    · split
      · rfl
      · split
        · simp
        · split
          · simp
          · rfl

@[simp] theorem State.choosePort_table (s : State) : s.choosePort.1.table = s.table := by
  unfold State.choosePort
  split
  · rfl
  next p u _ =>
    simp only
    split
    · rfl
    next r rest _ =>
      have hcheck := State.checkHead_table { s with arbiter := { s.arbiter with pointer := p, used := u } } p r
      split
      next heq => rw [heq] at hcheck; exact hcheck
      next heq => rw [heq] at hcheck; rw [State.startHead_table]; exact hcheck

@[simp] theorem State.chooseOnce_table (s : State) : s.chooseOnce.1.table = s.table := by
  unfold State.chooseOnce
  split
  · simp
  · simp only
    split <;> simp

@[simp] theorem State.chooseAll_table (fuel : Nat) (s : State) : (State.chooseAll fuel s).table = s.table := by
  induction fuel generalizing s with
  | zero => rfl
  | succ fuel ih =>
    have honce := s.chooseOnce_table
    unfold State.chooseAll
    split
    next heq => rw [heq] at honce; rw [ih, honce]
    next heq => rw [heq] at honce; exact honce

@[simp] theorem State.choice_table (s : State) : s.choice.table = s.table := by
  unfold State.choice
  split <;> simp

end Sys2Proof.Machine
end

section
/-! SUPPORT. Every block's work keeps the form of the Station Table (R27, R47), from the local requests to the
commands. -/

namespace Sys2Proof.Machine

open Sys2Proof

/-! ### Local requests (R147-R160) -/

/-- The state a local request leaves, whether it completes or waits. -/
def LocalResult.state : LocalResult → State
  | .completes s _ => s
  | .waits s _ => s

theorem TableInv.doAttach {s : State} (h : TableInv s) (p : Port) (r : Request) :
    TableInv (s.doAttach p r).state := by
  unfold State.doAttach
  split
  · exact h
  next hcheck =>
    have ha : stationAddress r.top = true := by
      simp only [Bool.or_eq_true, Bool.not_eq_true', not_or, Bool.not_eq_false] at hcheck
      exact hcheck.2
    have hclaim := h.attachClaim p ha
    split <;> (next heq => rw [heq] at hclaim; exact hclaim)

theorem TableInv.doDetach {s : State} (h : TableInv s) (p : Port) (r : Request) :
    TableInv (s.doDetach p r).state := by
  unfold State.doDetach
  split
  · exact h
  · split
    · exact h
    · split
      · exact h
      · split
        · exact h.leaveEntry p _
        · exact h

theorem TableInv.clearChanged {s : State} (h : TableInv s) (p : Port) : TableInv (s.clearChanged p) :=
  h.map_entries rfl fun _ he => ⟨rfl, he.clearChanged p⟩

theorem TableInv.doQuery {s : State} (h : TableInv s) (p : Port) (r : Request) : TableInv (s.doQuery p r).state := by
  unfold State.doQuery
  split
  · exact h
  · split
    · unfold State.doQueryStation
      split
      · split <;> exact h
      · exact h
    · split
      · exact h.clearChanged p
      · split
        · exact h
        · split <;> exact h

/-- Of the local requests, ATTACH, DETACH and QUERY CHANGES change the table. -/
theorem TableInv.doLocal {s : State} (h : TableInv s) (p : Port) (r : Request) : TableInv (s.doLocal p r).state := by
  unfold State.doLocal
  split
  · exact h.doAttach p r
  · split
    · exact h.doDetach p r
    · split
      · unfold State.doRelease
        split <;> exact h.of_table rfl
      · split
        · exact h.of_table rfl
        · split
          · exact h.of_table rfl
          · split
            · exact h.doQuery p r
            · split
              · unfold State.doMark
                split <;> exact h
              · exact h

theorem TableInv.executeHead {s : State} (h : TableInv s) (p : Port) : TableInv (s.executeHead p).1 := by
  unfold State.executeHead
  split
  · exact h
  next r _ _ =>
    have hlocal := h.doLocal p r
    split <;> (next heq => rw [heq] at hlocal; exact hlocal.of_table rfl)

/-! ### What one change leaves ready (R147, R79) -/

@[simp] theorem State.takeFirst_table (s : State) (first : Due) (rest : List Due) :
    (s.takeFirst first rest).2.table = s.table := by
  unfold State.takeFirst
  split <;> rfl

theorem TableInv.choice {s : State} (h : TableInv s) : TableInv s.choice := h.of_table s.choice_table

theorem TableInv.settleAll {s : State} (h : TableInv s) (fuel : Nat) (call : Bool) :
    TableInv (State.settleAll fuel call s) := by
  induction fuel generalizing s call with
  | zero => exact h
  | succ fuel ih =>
    unfold State.settleAll
    split
    · exact h
    next first rest _ =>
      have hfirst : TableInv (s.takeFirst first rest).2 := h.of_table (s.takeFirst_table first rest)
      split
      next heq => rw [heq] at hfirst; exact ih (hfirst.executeHead _) _
      next heq => rw [heq] at hfirst; exact ih hfirst.choice _

theorem TableInv.settle {s : State} (h : TableInv s) (call : Bool) : TableInv (s.settle call) := h.settleAll _ call

/-! ### Submission (R143, R145) -/

@[simp] theorem State.commit_table (s : State) (p : Port) (r : Request) : (s.commit p r).1.table = s.table := by
  simp only [State.commit]
  split
  · rfl
  · split <;> rfl

@[simp] theorem State.voidWord_table (s : State) (p : Port) : (s.voidWord p).table = s.table := by
  unfold State.voidWord
  split <;> rfl

theorem TableInv.stage {s : State} (h : TableInv s) (p : Port) (w : Word) : TableInv (s.stage p w) := by
  simp only [State.stage]
  split
  · exact h
  · split
    · refine TableInv.settle ?_ _
      exact h.of_table (State.commit_table _ p _)
    · exact h.of_table rfl

theorem TableInv.submitWord {s : State} (h : TableInv s) (p : Port) (w : Word) : TableInv (s.submitWord p w) := by
  unfold State.submitWord
  split
  · refine TableInv.stage ?_ p w
    exact h.of_table rfl
  · exact h.of_table (s.voidWord_table p)

theorem TableInv.submitWords {s : State} (h : TableInv s) (p : Port) (ws : List Word) :
    TableInv (s.submitWords p ws) :=
  List.foldlRecOn (motive := TableInv) ws _ h fun _ ht w _ => ht.submitWord p w

/-! ### The end of an exchange (R69-R76) -/

@[simp] theorem State.watchTakesEnd_table (s : State) (x : Exchange) (o : Final) :
    (s.watchTakesEnd x o).table = s.table := by
  have hbreaks : (s.breaksTakeEnd x o).table = s.table := by
    unfold State.breaksTakeEnd
    split
    · split <;> rfl
    · rfl
  have hown : ∀ t : State, (t.ownWatchTakesEnd x o).table = t.table := by
    intro t
    unfold State.ownWatchTakesEnd
    split
    · split
      · split <;> rfl
      · rfl
      · rfl
    · rfl
  simp only [State.watchTakesEnd]
  split
  · exact hbreaks
  · rw [hown, hbreaks]

@[simp] theorem State.attachesTakeEnd_table (s : State) (x : Exchange) : (s.attachesTakeEnd x).table = s.table := by
  unfold State.attachesTakeEnd
  split
  · split <;> rfl
  · rfl

@[simp] theorem State.arbiterTakesEnd_table (s : State) (x : Exchange) (o : Final) :
    (s.arbiterTakesEnd x o).table = s.table := by
  unfold State.arbiterTakesEnd
  split <;> rfl

@[simp] theorem State.portTakesEnd_table (s : State) (x : Exchange) (o : Final) :
    (s.portTakesEnd x o).table = s.table := by
  unfold State.portTakesEnd
  split <;> rfl

theorem TableInv.routerTakesEnd {s : State} (h : TableInv s) (x : Exchange) (o : Final) :
    TableInv (s.routerTakesEnd x o) := by
  unfold State.routerTakesEnd
  split
  · exact h.route _ _ _
  · exact h

theorem TableInv.handEnd {s : State} (h : TableInv s) (x : Exchange) (o : Final) : TableInv (s.handEnd x o) := by
  have hidle : TableInv { s with exchange := none } := h.of_table rfl
  have hrest : ∀ t : State, TableInv t → TableInv ((t.arbiterTakesEnd x o).portTakesEnd x o) := by
    intro t ht
    exact ht.of_table (by rw [State.portTakesEnd_table, State.arbiterTakesEnd_table])
  simp only [State.handEnd]
  apply hrest
  split
  · exact hidle
  · refine TableInv.of_table (TableInv.routerTakesEnd ?_ x o) (State.attachesTakeEnd_table _ x)
    exact (hidle.tableTakesEnd x o).of_table (State.watchTakesEnd_table _ x o)

theorem TableInv.startPaired {s : State} (h : TableInv s) (p : Port) : TableInv (s.startPaired p) := by
  simp only [State.startPaired]
  split
  · exact h.of_table rfl
  · exact h.of_table (State.startHead_table _ p _)

theorem TableInv.failPaired {s : State} (h : TableInv s) (p : Port) (attempts : Nat) :
    TableInv (s.failPaired p attempts) := by
  simp only [State.failPaired]
  split
  · exact h.of_table rfl
  · split <;> exact h.of_table rfl

theorem TableInv.originExecutes {s : State} (h : TableInv s) (x : Exchange) : TableInv (s.originExecutes x) := by
  unfold State.originExecutes
  split
  · split
    · exact h.executeHead _
    · exact h
  · exact h

theorem TableInv.endExchange {s : State} (h : TableInv s) (x : Exchange) (o : Final) :
    TableInv (s.endExchange x o) := by
  have hend := h.handEnd x o
  simp only [State.endExchange]
  split
  · split
    · exact (hend.startPaired _).settle false
    · exact (hend.failPaired _ _).choice.settle false
  · exact (hend.originExecutes x).settle true

/-! ### Attempts and replies (R54-R68) -/

theorem TableInv.failAttempt {s : State} (h : TableInv s) (x : Exchange) (f : Failure) :
    TableInv (s.failAttempt x f) := by
  simp only [State.failAttempt]
  split
  · split <;> exact h.of_table rfl
  · exact h.endExchange _ _

theorem TableInv.await {s : State} (h : TableInv s) (x : Exchange) : TableInv (s.await x) := h.of_table rfl

theorem TableInv.sendDone {s : State} (h : TableInv s) : TableInv s.sendDone := by
  unfold State.sendDone
  split
  · exact h
  · split
    · split
      · split
        · exact h.endExchange _ _
        · exact h.of_table rfl
      · exact h.await _
    · exact h

@[simp] theorem State.frameBegun_table (s : State) : s.frameBegun.table = s.table := by
  unfold State.frameBegun
  split
  · rfl
  · split <;> rfl

theorem TableInv.replyExpired {s : State} (h : TableInv s) : TableInv s.replyExpired := by
  unfold State.replyExpired
  split
  · exact h
  · split
    · exact h.failAttempt _ _
    · exact h

theorem TableInv.holdoffExpired {s : State} (h : TableInv s) : TableInv s.holdoffExpired := by
  unfold State.holdoffExpired
  split
  · exact h
  · split
    · exact h.endExchange _ _
    · exact h

theorem TableInv.ite {c : Prop} [Decidable c] {a b : State} (ha : TableInv a) (hb : TableInv b) :
    TableInv (if c then a else b) := by
  split
  · exact ha
  · exact hb

theorem TableInv.takeAnswer {s : State} (h : TableInv s) (x : Exchange) (index : Nat) (values : List Half)
    (more : Bool) : TableInv (s.takeAnswer x index values more) := by
  have hfail := h.failAttempt x .protocol
  simp only [State.takeAnswer]
  exact .ite hfail (.ite hfail (.ite hfail (.ite hfail (.ite hfail (.ite (h.await _) (h.endExchange _ _))))))

theorem TableInv.takeRefuse {s : State} (h : TableInv s) (x : Exchange) (reason : RefuseReason) :
    TableInv (s.takeRefuse x reason) := by
  cases reason with
  | busy => exact h.failAttempt _ _
  | nopoint | denied | fault => exact h.endExchange _ _

/-- What a frame from the right station does to the attempt, whatever its kind (R57): it fails the attempt, refuses,
answers, or ends the exchange. -/
theorem State.takeReply_cases (s : State) (x : Exchange) (reply : Reply) :
    s.takeReply x reply = s.failAttempt x .protocol ∨ (∃ reason, s.takeReply x reply = s.takeRefuse x reason)
      ∨ (∃ index values more, s.takeReply x reply = s.takeAnswer x index values more)
      ∨ ∃ o, s.takeReply x reply = s.endExchange x o := by
  unfold State.takeReply
  generalize x.kind = kind
  cases reply with
  | refuse reason =>
    cases kind with
    | broadcast => exact .inl rfl
    | ping | read | write | cwriteAsWrite | poll => exact .inr (.inl ⟨reason, rfl⟩)
  | pong capable highest =>
    cases kind with
    | ping => exact .inr (.inr (.inr ⟨_, rfl⟩))
    | read | write | cwriteAsWrite | broadcast | poll => exact .inl rfl
  | answer index values more =>
    cases kind with
    | read => exact .inr (.inr (.inl ⟨index, values, more, rfl⟩))
    | ping | write | cwriteAsWrite | broadcast | poll => exact .inl rfl
  | accept =>
    cases kind with
    | write | cwriteAsWrite => exact .inr (.inr (.inr ⟨_, rfl⟩))
    | ping | read | broadcast | poll => exact .inl rfl
  | report t more items =>
    cases kind with
    | poll => exact .inr (.inr (.inr ⟨_, rfl⟩))
    | ping | read | write | cwriteAsWrite | broadcast => exact .inl rfl
  | nothing =>
    cases kind with
    | poll => exact .inr (.inr (.inr ⟨_, rfl⟩))
    | ping | read | write | cwriteAsWrite | broadcast => exact .inl rfl

theorem TableInv.takeReply {s : State} (h : TableInv s) (x : Exchange) (reply : Reply) :
    TableInv (s.takeReply x reply) := by
  rcases s.takeReply_cases x reply with heq | ⟨reason, heq⟩ | ⟨index, values, more, heq⟩ | ⟨o, heq⟩ <;> rw [heq]
  · exact h.failAttempt x .protocol
  · exact h.takeRefuse x reason
  · exact h.takeAnswer x index values more
  · exact h.endExchange x o

theorem TableInv.takeValid {s : State} (h : TableInv s) (x : Exchange) (source : Byte) (reply : Reply) :
    TableInv (s.takeValid x source reply) := by
  simp only [State.takeValid]
  split
  · exact h.failAttempt _ _
  · refine TableInv.takeReply ?_ x reply
    split
    · exact h.heard _
    · exact h

theorem TableInv.frameEnded {s : State} (h : TableInv s) (report : FrameReport) : TableInv (s.frameEnded report) := by
  unfold State.frameEnded
  split
  · exact h
  · split
    · split
      · exact h.failAttempt _ _
      · exact h.await _
      · exact h.failAttempt _ _
      · exact h.takeValid _ _ _
    · exact h

/-! ### The field line (R1-R9) -/

theorem TableInv.setRx {s : State} (h : TableInv s) (rx : Receiver) : TableInv (s.setRx rx) := h.of_table rfl

theorem TableInv.takeCharacter {s : State} (h : TableInv s) (data : Byte) (fault : Bool) :
    TableInv (s.takeCharacter data fault) := by
  have hbegun : TableInv (if s.line.rx = .hunting then s.frameBegun else s) := by
    split
    · exact h.of_table s.frameBegun_table
    · exact h
  simp only [State.takeCharacter]
  split
  · exact (hbegun.setRx .discarding).frameEnded _
  · exact hbegun.setRx _

theorem TableInv.confirmFrame {s : State} (h : TableInv s) : TableInv s.confirmFrame := by
  unfold State.confirmFrame
  split
  · exact h
  · exact h
  · exact (h.setRx .hunting).frameEnded _
  · exact (h.setRx .hunting).frameEnded _
  · exact h.setRx .hunting

theorem TableInv.lapse {s : State} (h : TableInv s) (n : Nat) : TableInv (s.lapse n) := by
  have hcounts : TableInv (s.elapse n) := h.of_table rfl
  simp only [State.lapse]
  split
  · exact hcounts.confirmFrame
  · exact hcounts

theorem TableInv.transmit {s : State} (h : TableInv s) : TableInv s.transmit := by
  unfold State.transmit
  split
  · split
    · exact h.of_table rfl
    · exact h
  · exact h

theorem TableInv.gapEnds {s : State} (h : TableInv s) : TableInv s.gapEnds := by
  unfold State.gapEnds
  split
  · split
    · exact h.of_table rfl
    · exact h
  · exact h

theorem TableInv.completeSend {s : State} (h : TableInv s) : TableInv s.completeSend := by
  refine TableInv.sendDone ?_
  exact h.of_table rfl

theorem TableInv.bitTime {s : State} (h : TableInv s) : TableInv s.bitTime := by
  have hlapse := h.lapse 1
  unfold State.bitTime
  split
  · split
    · exact h.of_table rfl
    · exact h.completeSend
    · have hreply : TableInv (if (s.lapse 1).replyLeft = some 0 then (s.lapse 1).replyExpired else s.lapse 1) :=
        .ite hlapse.replyExpired hlapse
      exact (TableInv.ite hreply.holdoffExpired hreply).gapEnds.transmit
  · exact h

/-! ### Start-up (R30, R182-R190) -/

theorem stationTable_cleared {s : State} (hs : s.table = List.replicate Config.stationSlots none) : TableInv s := by
  have hentry : ∀ k, s.entry k = none := by
    intro k
    rw [State.entry, hs, List.getD_eq_getElem?_getD, List.getElem?_replicate]
    split <;> rfl
  refine ⟨by rw [hs, List.length_replicate], ?_, ?_, ?_, ?_, ?_⟩ <;> simp [hentry]

/-- What a kept pre-attach entry gives the table: a station address and a port (R187). -/
def PreAttachValid (kept : Byte × PortSet) : Prop :=
  stationAddress kept.1 = true ∧ PortSet.isEmpty kept.2 = false

theorem takePreAttach_valid (openSet : PortSet) (acc : List (Byte × PortSet) × Bool) (e : Byte × PortSet)
    (h : ∀ kept ∈ acc.1, PreAttachValid kept) : ∀ kept ∈ (takePreAttach openSet acc e).1, PreAttachValid kept := by
  simp only [takePreAttach]
  split
  · exact h
  · split
    · exact h
    next hvalid =>
      obtain ⟨haddress, hports⟩ := not_or.mp hvalid
      split
      · intro kept hkept
        obtain ⟨k, hk, rfl⟩ := List.mem_map.mp hkept
        split
        · refine ⟨(h k hk).1, PortSet.isEmpty_of_subset (h k hk).2 fun p hp => ?_⟩
          rw [PortSet.get_union, hp, Bool.true_or]
        · exact h k hk
      · intro kept hkept
        rcases List.mem_append.mp hkept with hold | hnew
        · exact h kept hold
        · rw [List.mem_singleton.mp hnew]
          exact ⟨by simpa using haddress, by simpa using hports⟩

theorem settlePreAttach_valid (openSet : PortSet) (entries : List (Byte × PortSet)) :
    ∀ kept ∈ (settlePreAttach openSet entries).1, PreAttachValid kept :=
  List.foldlRecOn (motive := fun acc : List (Byte × PortSet) × Bool => ∀ kept ∈ acc.1, PreAttachValid kept) entries
    (takePreAttach openSet) (fun _ hkept => absurd hkept List.not_mem_nil)
    fun acc hacc e _ => takePreAttach_valid openSet acc e hacc

/-- Every entry that a judged image keeps is one the table can hold (R187). -/
theorem judge_kept_valid (reading : Reading) : ∀ kept ∈ (judge reading).kept, PreAttachValid kept := by
  have hnone : ∀ kept : Byte × PortSet, kept ∈ ([] : List (Byte × PortSet)) → PreAttachValid kept :=
    fun _ hkept => absurd hkept List.not_mem_nil
  unfold judge
  split
  · exact hnone
  · split
    · exact hnone
    · split
      · exact hnone
      · exact settlePreAttach_valid (settledParams _).openAtStart (preAttachEntries _)

theorem TableInv.preAttach {s : State} (h : TableInv s) {kept : Byte × PortSet} (hkept : PreAttachValid kept) :
    TableInv (s.preAttach kept) := by
  unfold State.preAttach
  split
  next hnew hfree => exact h.createEntry hfree hnew hkept.1 hkept.2
  · exact h

theorem TableInv.applyLoad {s : State} (h : TableInv s) (image : List Byte) (bus : List BusOp) {j : Judgement}
    (hkept : ∀ kept ∈ j.kept, PreAttachValid kept) : TableInv (s.applyLoad image bus j) := by
  simp only [State.applyLoad]
  refine TableInv.of_table (s := j.kept.foldl (fun s kept => s.preAttach kept)
    { s with loader := Loader.finished image bus j }) ?_ rfl
  refine List.foldlRecOn (motive := TableInv) _ _ ?_ fun _ ht kept hmem => ht.preAttach (hkept kept hmem)
  exact h.of_table rfl

theorem TableInv.restart {s : State} (h : TableInv s) : TableInv s.restart :=
  h.map_entries rfl fun _ he => ⟨rfl, he.restarted _⟩

/-! ### Control operations (R167-R172) -/

theorem TableInv.closePort {s : State} (h : TableInv s) (p : Port) : TableInv (s.closePort p) := by
  simp only [State.closePort]
  refine TableInv.of_table (TableInv.leaveAll ?_ p) rfl
  exact h.of_table rfl

theorem TableInv.takeControlWord {s : State} (h : TableInv s) (p : Port) (w : Word) :
    TableInv (s.takeControlWord p w) := by
  have hsend : TableInv (s.send p 0) := h.of_table rfl
  simp only [State.takeControlWord]
  split
  · split
    next op _ =>
      unfold State.takeControl
      split
      · cases op with
        | close => exact hsend.closePort p
        | openPort | doze | wakeup | clear | mask | force => exact hsend.of_table rfl
      · exact hsend
    · exact hsend
  · exact h.of_table (s.voidWord_table p)

/-! ### Slow time (R35, R95, R110) -/

theorem TableInv.appendReprobe {s : State} (h : TableInv s) (k : Nat) : TableInv (s.appendReprobe k) := by
  unfold State.appendReprobe
  split
  · exact h
  · split
    · exact h.of_table rfl
    · exact h

theorem TableInv.pollEvent {s : State} (h : TableInv s) (e : PollEvent) : TableInv (s.pollEvent e) := by
  cases e with
  | reprobe k => exact (h.appendReprobe k).settle true
  | cycle =>
    refine TableInv.settle ?_ true
    exact h.of_table rfl

theorem TableInv.pollEvents {s : State} (h : TableInv s) (n : Nat) (events : List PollEvent) :
    TableInv (State.pollEvents n events s) := by
  induction n generalizing s events with
  | zero => exact h
  | succ n ih =>
    unfold State.pollEvents
    split
    · exact h
    · exact h.pollEvent _
    · refine ih (TableInv.pollEvent ?_ _) _
      exact h.of_table rfl

theorem TableInv.pollTick {s : State} (h : TableInv s) : TableInv s.pollTick := by
  have hcount : TableInv { s.reloadPollTimer.ageWatches with table := s.table.map countDown } := by
    refine h.map_entries (f := fun e => if e.counting then { e with countdown := e.countdown - 1 } else e) rfl
      fun e he => ?_
    split
    · exact ⟨rfl, he.of_sameForm ⟨rfl, rfl, rfl, rfl⟩⟩
    · exact ⟨rfl, he⟩
  simp only [State.pollTick]
  refine TableInv.pollEvents ?_ _ _
  split
  · exact hcount.of_table rfl
  · exact hcount

@[simp] theorem State.expireWatch_table (s : State) (p : Port) (k : WatchNo) : (s.expireWatch p k).table = s.table := by
  simp only [State.expireWatch]
  split
  · split <;> rfl
  · rfl

/-! ### Transactions (R142, R164, R178) -/

@[simp] theorem State.takeWord_table (s : State) (p : Port) (c : Channel) (take : PortUnit → PortUnit × Word) :
    (s.takeWord p c take).table = s.table := by
  simp only [State.takeWord]
  split
  · rfl
  · simp

/-! ### The commands -/

/-- The next state, where the outcome is one, has the form of the table. -/
def KeepsTable (o : Host.Outcome State Fault Refusal) : Prop := ∀ t, o = .next t → TableInv t

theorem TableInv.next {t : State} (h : TableInv t) : KeepsTable (.next t) := by
  intro u hu
  cases hu
  exact h

theorem TableInv.next_of_table {s t : State} (h : TableInv s) (ht : t.table = s.table) : KeepsTable (.next t) :=
  (h.of_table ht).next

theorem KeepsTable.ite {c : Prop} [Decidable c] {a b : Host.Outcome State Fault Refusal} (ha : c → KeepsTable a)
    (hb : KeepsTable b) : KeepsTable (if c then a else b) := by
  split
  next hc => exact ha hc
  · exact hb

theorem execReprobeDue_keepsTable {s : State} (h : TableInv s) (slot : Fin 32) :
    KeepsTable (execReprobeDue slot s) := by
  unfold execReprobeDue
  split
  next e he =>
    refine .ite (fun _ => TableInv.next (TableInv.settle (TableInv.appendReprobe ?_ _) true)) h.next
    exact h.setEntry_sameForm he ⟨rfl, rfl, rfl, rfl⟩
  · exact h.next

theorem execCharacterReceived_keepsTable {s : State} (h : TableInv s) (data : Byte) (parity stop : Bool) :
    KeepsTable (execCharacterReceived data parity stop s) := by
  unfold execCharacterReceived
  split
  · exact h.next_of_table rfl
  · refine .ite (fun _ => h.next) (TableInv.next (TableInv.takeCharacter ?_ _ _))
    exact h.of_table rfl

/-- Each command keeps the form of the table. -/
theorem exec_keepsTable {s : State} (h : TableInv s) (c : Instr) : KeepsTable (exec c s) := by
  cases c with
  | powerOnReset => exact (stationTable_cleared rfl).next
  | loadStart => exact .ite (fun _ => h.next_of_table rfl) h.next
  | loadEnd lines =>
    exact .ite (fun _ => ((h.applyLoad _ _ (judge_kept_valid (readMemory lines).2)).settle true).next) h.next
  | warmRestart => exact .ite (fun _ => h.restart.next) h.next
  | warmRestartEnd =>
    refine .ite (fun _ => TableInv.next (TableInv.settle ?_ true)) h.next
    exact h.of_table rfl
  | channelOperation p op => exact .ite (fun _ => h.next_of_table rfl) h.next
  | transactionBegin p => exact .ite (fun _ => h.next) (h.next_of_table rfl)
  | transactionEnd p => exact h.next_of_table rfl
  | submitWord p w => exact (h.submitWord p w).next
  | takeCompletion p => exact h.next_of_table (s.takeWord_table p _ _)
  | takeReport p => exact h.next_of_table (s.takeWord_table p _ _)
  | statusRead p full => exact .ite (fun _ => h.next_of_table rfl) h.next
  | openPort p | doze p | wakeup p | close p | clear p flags | mask p flags | force p flags
  | invalidControlOperation p w => exact (h.takeControlWord p _).next
  | read p | write p | cwrite p | attach p | detach p | release p | filterMode p | filterListAdd p
  | filterListRemove p | filterHashSet p | filterHashClear p | filterClearAll p | wakeset p | queryStation p
  | queryChanges p | queryWatches p | queryLine p | mark p | unassignedKind p => exact (h.submitWords p _).next
  | transmitStart =>
    show KeepsTable (execTransmitStart s)
    unfold execTransmitStart
    split
    · exact (h.lapse _).transmit.next
    · exact h.next
  | sendComplete =>
    show KeepsTable (execSendComplete s)
    unfold execSendComplete
    split
    · exact h.completeSend.next
    · exact h.next
  | characterReceived data parity stop => exact execCharacterReceived_keepsTable h data parity stop
  | frameConfirmation => exact .ite (fun _ => (h.lapse _).next) h.next
  | replyTimerExpiry =>
    show KeepsTable (execReplyTimerExpiry s)
    unfold execReplyTimerExpiry
    split
    · exact (h.lapse _).replyExpired.next
    · exact h.next
  | retryGapEnd => exact .ite (fun _ => (h.lapse _).gapEnds.next) h.next
  | holdoffExpiry =>
    show KeepsTable (execHoldoffExpiry s)
    unfold execHoldoffExpiry
    split
    · exact (h.lapse _).holdoffExpired.next
    · exact h.next
  | tick =>
    show KeepsTable (execTick s)
    unfold execTick
    split
    · exact h.next
    · exact .ite (fun _ => h.pollTick.next) (h.next_of_table rfl)
  | pollTick =>
    show KeepsTable (execPollTick s)
    unfold execPollTick
    split
    · exact h.next
    · exact h.pollTick.next
  | reprobeDue slot => exact execReprobeDue_keepsTable h slot
  | watchExpired p k => exact .ite (fun _ => h.next_of_table (s.expireWatch_table p k)) h.next
  | lineReturnsHigh => exact h.next_of_table rfl

theorem step_keepsTable {s : State} (h : TableInv s) : KeepsTable (step s) := by
  unfold step
  split
  · exact h.bitTime.next
  next c rest _ =>
    refine exec_keepsTable ?_ c
    exact h.of_table rfl

end Sys2Proof.Machine
end

section
/-! CLAIM. The form of the Station Table. -/

open Sys2Proof Sys2Proof.Machine

/-- Settles O55: every command, and a bit time on an empty queue, keeps the form of the table. -/
theorem stationTableStaysWellFormed : Obligations.StationTableStaysWellFormed :=
  fun _ t h hstep => step_keepsTable h t hstep

end

section
/-! SUPPORT. A heard claim (R31) and the end of a POLL at the Arbiter (R85, R86). -/

namespace Sys2Proof.Machine

open Sys2Proof

/-! ### A heard claim (R31) -/

theorem State.heard_online (s : State) {k : Nat} {e : Entry} (he : s.entry k = some e) (h : e.state = .online) :
    s.heard k = s.setEntry k (some { e with failures := 0 }) := by
  simp [State.heard, he, h]

theorem State.heard_suspect (s : State) {k : Nat} {e : Entry} (he : s.entry k = some e) (h : e.state = .suspect) :
    s.heard k = (s.setEntry k (some { e with failures := 0 })).changeState k .online := by
  simp [State.heard, he, h]

theorem State.heard_elsewhere (s : State) {k : Nat} {e : Entry} (he : s.entry k = some e)
    (h : e.state = .probing ∨ e.state = .offline) : s.heard k = s := by
  rcases h with h | h <;> simp [State.heard, he, h]

/-! ### The poll burst (R85, R86) -/

theorem Arbiter.pollEnded_stays (a : Arbiter) (h : a.burstCount < Config.burstLimit) : a.pollEnded true = a := by
  simp [Arbiter.pollEnded, h]

theorem Arbiter.pollEnded_advances (a : Arbiter) (more : Bool) (h : more = false ∨ Config.burstLimit ≤ a.burstCount) :
    a.pollEnded more = a.advance := by
  rcases h with rfl | h
  · rfl
  · simp [Arbiter.pollEnded, Nat.not_lt.mpr h]

theorem Arbiter.advance_next (a : Arbiter) (h : a.cursor + 1 < Config.stationSlots) :
    a.advance = { a with cursor := a.cursor + 1, burstCount := 0, burstAddress := none } := by
  simp [Arbiter.advance, h]

theorem Arbiter.advance_closes (a : Arbiter) (h : Config.stationSlots ≤ a.cursor + 1) :
    a.advance = { a with cycleOpen := false, cursor := 0, burstCount := 0, burstAddress := none } := by
  simp [Arbiter.advance, Nat.not_lt.mpr h]

end Sys2Proof.Machine
end

section
/-! CLAIM. Heard stations and poll bursts. -/

open Sys2Proof Sys2Proof.Machine

/-- Settles O47: a heard claim by the state of the entry, and the end of a POLL by the burst and the cursor. -/
theorem heardStationsAndPollBursts : Obligations.HeardStationsAndPollBursts := by
  refine ⟨fun s k e he => ⟨fun honline => ?_, fun hsuspect => ?_, s.heard_elsewhere he⟩, fun a more => ⟨?_, ?_⟩⟩
  · rw [s.heard_online he honline]
    exact ⟨by rw [s.setEntry_entry_of_some he, if_pos rfl], rfl⟩
  · have hzero : (s.setEntry k (some { e with failures := 0 })).entry k = some { e with failures := 0 } := by
      rw [s.setEntry_entry_of_some he, if_pos rfl]
    rw [s.heard_suspect he hsuspect]
    refine ⟨?_, fun q => ?_⟩
    · rw [State.changeState_entry _ hzero, if_pos rfl]
      simp [Entry.changedTo, hsuspect]
    · rw [State.changeState_port _ hzero]
      simp only [hsuspect, ne_eq, reduceCtorEq, not_false_eq_true, true_and]
      rfl
  · rintro rfl hburst
    exact a.pollEnded_stays hburst
  · intro hends
    rw [a.pollEnded_advances more hends]
    exact ⟨fun hcursor => a.advance_next (Nat.succ_lt_succ hcursor),
      fun hcursor => a.advance_closes (Nat.succ_le_succ hcursor)⟩

end

section
/-! SUPPORT. A choice called for where no local request is ready, and the shares of one entry and one slot in a poll
tick (R35, R79, R80, R110; log 5). -/

namespace Sys2Proof.Machine

open Sys2Proof

/-! ### A choice alone (R79, R80) -/

/-- Whether a port's local head may execute depends on the port and on the part running. -/
theorem State.localReady_congr {s t : State} {p : Port} (hrun : t.run = s.run) (hport : t.port p = s.port p) :
    t.localReady p = s.localReady p := by
  unfold State.localReady
  rw [hrun, hport]

theorem State.Quiet.of_ports {s t : State} (h : s.Quiet) (hrun : t.run = s.run) (hports : t.ports = s.ports) :
    t.Quiet :=
  fun q => (State.localReady_congr hrun (congrArg (Quad.get · q) hports)).trans (h q)

/-- Where no local request is ready before or after it, a choice is all that a change calls for. -/
theorem State.settle_choice (s : State) (hquiet : s.Quiet) (hx : s.exchange = none) (hafter : s.choice.Quiet) :
    s.settle true = s.choice := by
  have hdue : s.due true = [.choose] := by simp [State.due, hquiet _, hx]
  have hdone : ∀ fuel, State.settleAll fuel false s.choice = s.choice := by
    intro fuel
    cases fuel with
    | zero => rfl
    | succ fuel =>
      have hnone : s.choice.due false = [] := by simp [State.due, hafter _]
      rw [State.settleAll, hnone]
  show State.settleAll (2 * s.queued + 10) true s = s.choice
  rw [State.settleAll, hdue]
  exact hdone _

/-- The first entry of the service list is what the choice starts (R80, R82). -/
theorem State.choice_service (s : State) (item : ServiceItem) (rest : List ServiceItem) (hx : s.exchange = none)
    (hrun : s.run = .running) (hlist : s.arbiter.serviceList = item :: rest) : s.choice = s.startService item rest := by
  simp [State.choice, hx, hrun, State.chooseAll, State.chooseOnce, hlist]

theorem State.startService_reprobe (s : State) {k : Nat} {e : Entry} (he : s.entry k = some e) (a : Byte)
    (rest : List ServiceItem) : s.startService ⟨k, a, .reprobe⟩ rest
      = ({ s with arbiter := { s.arbiter with serviceList := rest } } : State).startExchange
        (pingExchange .reprobe k e) := by
  have he' : ({ s with arbiter := { s.arbiter with serviceList := rest } } : State).entry k = some e := he
  simp [State.startService, he']

/-! ### REPROBE_DUE (R35; log 5) -/

/-- The reprobe of slot k has fallen due: the countdown is 0 and the reprobe stands on the service list. -/
def State.reprobeQueued (s : State) (k : Nat) (e : Entry) : State :=
  (s.setEntry k (some { e with countdown := 0 })).appendService ⟨k, e.address, .reprobe⟩

theorem State.appendReprobe_of_due (s : State) {k : Nat} {e : Entry} (he : s.entry k = some e)
    (hoffline : e.state = .offline) :
    (s.setEntry k (some { e with countdown := 0 })).appendReprobe k = s.reprobeQueued k e := by
  simp [State.appendReprobe, State.reprobeQueued, s.setEntry_entry_of_some he, hoffline]

theorem execReprobeDue_of_due (s : State) (slot : Fin 32) {e : Entry} (hrun : s.run = .running)
    (he : s.entry slot.val = some e) (hoffline : e.state = .offline) (hcount : e.countdown = 1) :
    execReprobeDue slot s = .next ((s.reprobeQueued slot.val e).settle true) := by
  simp only [execReprobeDue, he, if_pos (And.intro hrun (And.intro hoffline hcount)),
    s.appendReprobe_of_due he hoffline]

theorem State.Quiet.reprobeQueued {s : State} (h : s.Quiet) (k : Nat) (e : Entry) : (s.reprobeQueued k e).Quiet :=
  h.of_ports rfl rfl

/-- On an idle record with nothing else on the service list the reprobe starts at once (R35, R80, R82). -/
theorem State.reprobeQueued_choice (s : State) {k : Nat} {e : Entry} (hrun : s.run = .running) (hx : s.exchange = none)
    (hlist : s.arbiter.serviceList = []) (he : s.entry k = some e) :
    (s.reprobeQueued k e).choice
      = (s.setEntry k (some { e with countdown := 0 })).startExchange
        (pingExchange .reprobe k { e with countdown := 0 }) := by
  have hqueue : (s.reprobeQueued k e).arbiter.serviceList = [⟨k, e.address, .reprobe⟩] := by
    show s.arbiter.serviceList ++ [_] = _
    rw [hlist, List.nil_append]
  have hentry : (s.reprobeQueued k e).entry k = some { e with countdown := 0 } :=
    (s.setEntry_entry_of_some he _ k).trans (if_pos rfl)
  have hlist' : { s.arbiter with serviceList := [] } = s.arbiter := by rw [← hlist]
  rw [(s.reprobeQueued k e).choice_service _ [] hx hrun hqueue, State.startService_reprobe _ hentry]
  show ({ s.setEntry k (some { e with countdown := 0 }) with
    arbiter := { s.arbiter with serviceList := [] } } : State).startExchange _ = _
  rw [hlist']
  rfl

/-! ### WATCH_EXPIRED (R110; log 5) -/

theorem Watch.age_last (w : Watch) (harmed : w.state = .armed) (hlife : w.life = .ticks 1) :
    w.age = { w with state := .broken, cause := .expired, life := .ticks 0 } := by
  simp [Watch.age, harmed, hlife]

/-- The expiry of a watch: the slot is BROKEN, and its port told when it has notify set (R100, R110). -/
theorem State.expireWatch_last (s : State) (p : Port) (k : WatchNo) (harmed : (s.watch p k).state = .armed)
    (hlife : (s.watch p k).life = .ticks 1) :
    s.expireWatch p k = if (s.watch p k).notify then
        (s.setWatch p k (s.watch p k).age).notice (PortSet.single p) Sticky.setBroken
      else s.setWatch p k (s.watch p k).age := by
  simp [State.expireWatch, harmed, hlife]

theorem PortSet.get_single (p q : Port) : (PortSet.single p).get q = decide (q = p) := by
  rw [PortSet.single, Quad.get_set, PortSet.get_empty]
  split <;> simp_all

theorem State.expireWatch_watch (s : State) (p : Port) (k : WatchNo) (harmed : (s.watch p k).state = .armed)
    (hlife : (s.watch p k).life = .ticks 1) (q : Port) (j : WatchNo) :
    (s.expireWatch p k).watch q j = if q = p ∧ j = k then (s.watch p k).age else s.watch q j := by
  rw [s.expireWatch_last p k harmed hlife]
  split <;> exact s.setWatch_watch p q k j _

theorem State.expireWatch_port (s : State) (p : Port) (k : WatchNo) (harmed : (s.watch p k).state = .armed)
    (hlife : (s.watch p k).life = .ticks 1) (q : Port) :
    (s.expireWatch p k).port q = if q = p ∧ (s.watch p k).notify = true then
      { s.port q with sticky := (s.port q).sticky.setBroken } else s.port q := by
  rw [s.expireWatch_last p k harmed hlife]
  split
  next hnotify =>
    rw [State.notice_port, PortSet.get_single]
    simp only [hnotify, and_true, decide_eq_true_eq]
    rfl
  next hnotify =>
    rw [if_neg fun h => hnotify h.2]
    rfl

/-- An expiry touches the watches and the ports alone. -/
theorem State.expireWatch_rest (s : State) (p : Port) (k : WatchNo) :
    { s.expireWatch p k with ports := s.ports, watches := s.watches } = s := by
  simp only [State.expireWatch]
  split
  · split <;> rfl
  · rfl

end Sys2Proof.Machine
end

section
/-! CLAIM. Reprobes that fall due and watches that expire. -/

open Sys2Proof Sys2Proof.Machine

/-- Settles O50: the reprobe is put on the service list, where an exchange in flight leaves it and a choice starts it;
the watch expires by the rules of its slot and port. -/
theorem reprobesFallDueAndWatchesExpire : Obligations.ReprobesFallDueAndWatchesExpire := by
  refine fun s hrun => ⟨fun slot e he hoffline hcount hquiet => ?_, fun p k harmed hlife => ?_⟩
  · have hexec : exec (.reprobeDue slot) s = .next ((s.reprobeQueued slot.val e).settle true) :=
      execReprobeDue_of_due s slot hrun he hoffline hcount
    have hqueued := hquiet.reprobeQueued slot.val e
    rw [hexec]
    refine ⟨fun hbusy => ?_, fun hx hlist => ?_⟩
    · rw [(s.reprobeQueued slot.val e).settle_of_quiet true hqueued (.inr hbusy)]
      rfl
    · have hchoice := s.reprobeQueued_choice hrun hx hlist he
      rw [(s.reprobeQueued slot.val e).settle_choice hqueued hx, hchoice]
      · rfl
      · rw [hchoice]
        exact hquiet.of_ports rfl rfl
  · refine ⟨s.expireWatch p k, if_pos hrun, fun q j => ?_, s.expireWatch_port p k harmed hlife, s.expireWatch_rest p k⟩
    rw [s.expireWatch_watch p k harmed hlife, Watch.age_last _ harmed hlife]

end

section
/-! SUPPORT. The end of an exchange at each block (R69-R76): what the table, the watches, the router, the Arbiter and
the port take of it, and what they leave. -/

namespace Sys2Proof.Machine

open Sys2Proof

/-! ### What an outcome can reach -/

/-- From s to t at most the table, the watches and, of the ports, the sticky flags and the report queues have changed:
what the Station Table, the Watch Unit and the Router do with an outcome (R70, R71, R72). -/
structure OutcomeReaches (s t : State) : Prop where
  rest : { t with table := s.table, watches := s.watches, ports := s.ports } = s
  port : ∀ q, ∃ f records, t.port q = { s.port q with sticky := f, reports := records }

theorem OutcomeReaches.refl (s : State) : OutcomeReaches s s := ⟨rfl, fun _ => ⟨_, _, rfl⟩⟩

theorem OutcomeReaches.trans {s t u : State} (h : OutcomeReaches s t) (h' : OutcomeReaches t u) :
    OutcomeReaches s u where
  rest := calc
    { u with table := s.table, watches := s.watches, ports := s.ports }
    _ = { ({ u with table := t.table, watches := t.watches, ports := t.ports } : State) with
          table := s.table, watches := s.watches, ports := s.ports } := rfl
    _ = { t with table := s.table, watches := s.watches, ports := s.ports } := by rw [h'.rest]
    _ = s := h.rest
  port q := by
    obtain ⟨f, records, hport⟩ := h.port q
    obtain ⟨f', records', hport'⟩ := h'.port q
    exact ⟨f', records', by rw [hport', hport]⟩

theorem OutcomeReaches.exchange {s t : State} (h : OutcomeReaches s t) : t.exchange = s.exchange :=
  (congrArg State.exchange h.rest :)

theorem OutcomeReaches.arbiter {s t : State} (h : OutcomeReaches s t) : t.arbiter = s.arbiter :=
  (congrArg State.arbiter h.rest :)

theorem OutcomeReaches.routing {s t : State} (h : OutcomeReaches s t) : t.routing = s.routing :=
  (congrArg State.routing h.rest :)

theorem OutcomeReaches.line {s t : State} (h : OutcomeReaches s t) : t.line = s.line := (congrArg State.line h.rest :)

theorem OutcomeReaches.setEntry (s : State) (k : Nat) (o : Option Entry) : OutcomeReaches s (s.setEntry k o) :=
  ⟨rfl, fun _ => ⟨_, _, rfl⟩⟩

theorem OutcomeReaches.setWatch (s : State) (p : Port) (k : WatchNo) (w : Watch) :
    OutcomeReaches s (s.setWatch p k w) :=
  ⟨rfl, fun _ => ⟨_, _, rfl⟩⟩

theorem OutcomeReaches.updEntry (s : State) (k : Nat) (f : Entry → Entry) : OutcomeReaches s (s.updEntry k f) := by
  unfold State.updEntry
  split
  · exact .refl s
  · exact .setEntry s k _

theorem OutcomeReaches.notice (s : State) (ports : PortSet) (f : Sticky → Sticky) :
    OutcomeReaches s (s.notice ports f) := by
  refine ⟨rfl, fun q => ?_⟩
  rw [State.notice_port]
  split
  · exact ⟨_, _, rfl⟩
  · exact ⟨_, _, rfl⟩

theorem OutcomeReaches.breakWatches (s : State) (hit : Cover → Bool) (c : BreakCause) (o : Option (Port × WatchNo)) :
    OutcomeReaches s (s.breakWatches hit c o) := by
  refine ⟨rfl, fun q => ?_⟩
  obtain ⟨f, hf⟩ := s.breakWatches_port hit c o q
  exact ⟨f, (s.port q).reports, hf⟩

theorem OutcomeReaches.changeState (s : State) (k : Nat) (state : StationState) :
    OutcomeReaches s (s.changeState k state) := by
  unfold State.changeState
  split
  · exact .refl s
  · split
    · exact .refl s
    · exact (OutcomeReaches.setEntry s k _).trans (.notice _ _ _)

theorem OutcomeReaches.countFailure (s : State) (k : Nat) (e : Entry) (sentWrite : Bool) :
    OutcomeReaches s (s.countFailure k e sentWrite) := by
  simp only [State.countFailure]
  split
  · exact ((OutcomeReaches.setEntry s k _).trans (.changeState _ k _)).trans (.breakWatches _ _ _ _)
  · exact (OutcomeReaches.setEntry s k _).trans (.changeState _ k _)

theorem OutcomeReaches.outcomeClaim (s : State) (k : Nat) (x : Exchange) (o : Final) :
    OutcomeReaches s (s.outcomeClaim k x o) := by
  unfold State.outcomeClaim
  split
  · exact .refl s
  · split
    · split
      · exact .setEntry s k _
      · exact .countFailure s k _ _
      · exact .countFailure s k _ _
      · exact .refl s
    · exact .refl s

theorem OutcomeReaches.probeEnd (s : State) (k : Nat) (o : Final) : OutcomeReaches s (s.probeEnd k o) := by
  unfold State.probeEnd
  split <;> exact (OutcomeReaches.updEntry s k _).trans (.changeState _ k _)

theorem OutcomeReaches.reprobeEnd (s : State) (k : Nat) (o : Final) : OutcomeReaches s (s.reprobeEnd k o) := by
  unfold State.reprobeEnd
  split
  · exact (OutcomeReaches.updEntry s k _).trans (.changeState _ k _)
  · exact .updEntry s k _

/-- The Station Table's share (R70). -/
theorem OutcomeReaches.tableTakesEnd (s : State) (x : Exchange) (o : Final) :
    OutcomeReaches s (s.tableTakesEnd x o) := by
  unfold State.tableTakesEnd
  cases x.slot with
  | none => exact .refl s
  | some k =>
    cases x.purpose with
    | probe => exact .probeEnd s k o
    | reprobe => exact .reprobeEnd s k o
    | resync | poll | request => exact .outcomeClaim s k x o

theorem OutcomeReaches.breaksTakeEnd (s : State) (x : Exchange) (o : Final) :
    OutcomeReaches s (s.breaksTakeEnd x o) := by
  unfold State.breaksTakeEnd
  split
  · cases x.kind with
    | write | cwriteAsWrite | broadcast => exact .breakWatches s _ _ _
    | ping | read | poll => exact .refl s
  · exact .refl s

theorem OutcomeReaches.ownWatchTakesEnd (s : State) (x : Exchange) (o : Final) :
    OutcomeReaches s (s.ownWatchTakesEnd x o) := by
  unfold State.ownWatchTakesEnd
  split
  · cases x.kind with
    | read =>
      simp only
      split
      · exact .setWatch s _ _ _
      · exact .refl s
    | cwriteAsWrite => exact .setWatch s _ _ _
    | ping | write | broadcast | poll => exact .refl s
  · exact .refl s

/-- The Watch Unit's share (R71). -/
theorem OutcomeReaches.watchTakesEnd (s : State) (x : Exchange) (o : Final) :
    OutcomeReaches s (s.watchTakesEnd x o) := by
  simp only [State.watchTakesEnd]
  split
  · exact .breaksTakeEnd s x o
  · exact (OutcomeReaches.breaksTakeEnd s x o).trans (.ownWatchTakesEnd _ x o)

/-- A report gives a port the WAKE notice and a record, and nothing else (R128, R129). -/
theorem PortUnit.routed_frame (u : PortUnit) (r : Routing) (station : Byte) (items : List Item) (gap : Bool) :
    ∃ f records, u.routed r station items gap = { u with sticky := f, reports := records } := by
  simp only [PortUnit.routed]
  split <;> split <;> try split
  all_goals exact ⟨_, _, rfl⟩

theorem OutcomeReaches.route (s : State) (k : Nat) (station : Byte) (items : List Item) :
    OutcomeReaches s (s.route k station items) := by
  unfold State.route
  split
  · exact .refl s
  next e _ =>
    refine OutcomeReaches.trans ?_ (.updEntry _ k _)
    refine OutcomeReaches.trans (.breakWatches s (hitsReport station items) .report none) ⟨rfl, fun q => ?_⟩
    rw [State.updPorts_port]
    split
    · exact PortUnit.routed_frame _ _ _ _ _
    · exact ⟨_, _, rfl⟩

/-- The Router's share (R72). -/
theorem OutcomeReaches.routerTakesEnd (s : State) (x : Exchange) (o : Final) :
    OutcomeReaches s (s.routerTakesEnd x o) := by
  unfold State.routerTakesEnd
  split
  · exact .route s _ _ _
  · exact .refl s

/-! ### The table (R31-R38) -/

theorem State.tableTakesEnd_claim (s : State) (x : Exchange) (o : Final) {k : Nat} (hslot : x.slot = some k)
    (hpurpose : x.purpose = .request ∨ x.purpose = .poll ∨ x.purpose = .resync) :
    s.tableTakesEnd x o = s.outcomeClaim k x o := by
  rcases hpurpose with h | h | h <;> simp [State.tableTakesEnd, hslot, h]

theorem State.outcomeClaim_ok (s : State) {k : Nat} {e : Entry} (x : Exchange) (o : Final) (he : s.entry k = some e)
    (hstate : e.state = .online ∨ e.state = .suspect) (ho : o.status = .ok) :
    s.outcomeClaim k x o = s.setEntry k (some (e.exchangeOk x o)) := by
  simp only [State.outcomeClaim, he, if_pos hstate, ho]

theorem State.outcomeClaim_failed (s : State) {k : Nat} {e : Entry} (x : Exchange) (o : Final)
    (he : s.entry k = some e) (hstate : e.state = .online ∨ e.state = .suspect)
    (ho : o.status = .noResponse ∨ o.status = .badReply) :
    s.outcomeClaim k x o = s.countFailure k e x.sentWrite := by
  rcases ho with ho | ho <;> simp only [State.outcomeClaim, he, if_pos hstate, ho]

/-- Only OK, NORESPONSE and BADREPLY act on an entry (R32, R38). -/
theorem State.outcomeClaim_other (s : State) (k : Nat) (x : Exchange) (o : Final) (hok : o.status ≠ .ok)
    (hnone : o.status ≠ .noResponse) (hbad : o.status ≠ .badReply) : s.outcomeClaim k x o = s := by
  unfold State.outcomeClaim
  split
  · rfl
  · split
    · split
      · exact absurd ‹_› hok
      · exact absurd ‹_› hnone
      · exact absurd ‹_› hbad
      · rfl
    · rfl

/-- Without a new report OK sets the toggle alone (R38, R40). -/
theorem Entry.exchangeOk_no_report (e : Entry) (x : Exchange) (o : Final) (ho : o.report = none) :
    e.exchangeOk x o = { e with
      toggle := if x.sentWrite then x.toggleSent.map (fun t => !t)
        else if x.purpose = .resync then some false else e.toggle } := by
  simp [Entry.exchangeOk, ho]

theorem Exchange.sentWrite_iff (x : Exchange) : x.sentWrite = true ↔ x.kind = .write ∨ x.kind = .cwriteAsWrite := by
  simp [Exchange.sentWrite]

/-- Where a failed exchange takes an entry (R32, R33). -/
def Entry.failedState (e : Entry) (params : LineParams) : StationState :=
  if e.failures + 1 = params.failureThreshold then .offline else .suspect

/-- The values a failed exchange gives an entry, its state aside (R32, R33, R38). -/
def Entry.failed (e : Entry) (params : LineParams) (sentWrite : Bool) : Entry :=
  { e with
    failures := e.failures + 1
    toggle := if e.failedState params = .offline ∨ sentWrite = true then none else e.toggle
    countdown := if e.failedState params = .offline then params.reprobeInterval else e.countdown }

/-- A failed exchange: the entry's new values, its change of state, and at the threshold the break of its watches. -/
theorem State.countFailure_eq (s : State) (k : Nat) (e : Entry) (sentWrite : Bool) :
    let failed := (s.setEntry k (some (e.failed s.loader.params sentWrite))).changeState k
      (e.failedState s.loader.params)
    s.countFailure k e sentWrite = if e.failedState s.loader.params = .offline then
      failed.breakWatches (hitsStation e.address) .offline none else failed := by
  by_cases hlast : e.failures + 1 = s.loader.params.failureThreshold
  · simp only [State.countFailure, Entry.failed, Entry.failedState, if_pos hlast, true_or, if_true]
  · simp only [State.countFailure, Entry.failed, Entry.failedState, if_neg hlast, reduceCtorEq, false_or, if_false]

/-! ### The notices and breaks of a claim -/

theorem State.anyWatch_congr {s t : State} {p : Port} {f g : WatchNo → Watch → Bool}
    (h : ∀ k, f k (s.watch p k) = g k (t.watch p k)) : s.anyWatch p f = t.anyWatch p g := by
  simp only [State.anyWatch, h]

/-- A port that owns a broken watch with notify set is handed BROKEN (R100, R104). -/
theorem State.breakWatches_told (s : State) (hit : Cover → Bool) (c : BreakCause) (o : Option (Port × WatchNo))
    (q : Port) : (s.breakWatches hit c o).port q
      = if s.anyWatch q fun k w => !(o == some (q, k)) && w.notify && w.hitBy hit then
          { s.port q with sticky := (s.port q).sticky.setBroken } else s.port q := by
  show (s.notice _ Sticky.setBroken).port q = _
  rw [State.notice_port, Quad.get_ofFn]

theorem State.breakWatches_broken (s : State) (hit : Cover → Bool) (c : BreakCause) (o : Option (Port × WatchNo))
    (q : Port) : ((s.breakWatches hit c o).port q).sticky.broken = ((s.port q).sticky.broken
      || s.anyWatch q fun k w => !(o == some (q, k)) && w.notify && w.hitBy hit) := by
  rw [s.breakWatches_told]
  split
  next h => rw [h, Bool.or_true]; rfl
  next h => rw [Bool.eq_false_of_not_eq_true h, Bool.or_false]

theorem State.breakWatches_changed (s : State) (hit : Cover → Bool) (c : BreakCause) (o : Option (Port × WatchNo))
    (q : Port) : ((s.breakWatches hit c o).port q).sticky.changed = (s.port q).sticky.changed := by
  rw [s.breakWatches_told]
  split <;> rfl

theorem State.changeState_changed (s : State) {k : Nat} {e : Entry} (he : s.entry k = some e) (state : StationState)
    (q : Port) : ((s.changeState k state).port q).sticky.changed
      = ((s.port q).sticky.changed || (decide (state ≠ e.state) && e.attached.get q)) := by
  rw [s.changeState_port he]
  split
  next h => simp [Sticky.setChanged, h.2, Ne.symm h.1]
  next h =>
    by_cases hne : e.state = state
    · simp [hne]
    · simp only [ne_eq, hne, not_false_eq_true, true_and] at h
      simp [h]

theorem State.changeState_broken (s : State) (k : Nat) (state : StationState) (q : Port) :
    ((s.changeState k state).port q).sticky.broken = (s.port q).sticky.broken := by
  cases he : s.entry k with
  | none => simp [State.changeState, he]
  | some e =>
    rw [s.changeState_port he]
    split <;> rfl

/-- A station gone OFFLINE hits the ARMED watches that name it (R109). -/
theorem Watch.hitBy_station (w : Watch) (a : Byte) :
    w.hitBy (hitsStation a) = (decide (w.state = .armed) && w.names a) := by
  unfold Watch.hitBy Watch.names hitsStation
  cases w.cover <;> rfl

theorem Watch.breakBy_emptySlot (hit : Cover → Bool) (c : BreakCause) :
    Watch.emptySlot.breakBy hit c = Watch.emptySlot := rfl

theorem State.watch_congr {s t : State} (h : t.watches = s.watches) (p : Port) (k : WatchNo) :
    t.watch p k = s.watch p k := by
  rw [State.watch, State.watch, h]

@[simp] theorem State.changeState_watch (s : State) (k : Nat) (state : StationState) (q : Port) (j : WatchNo) :
    (s.changeState k state).watch q j = s.watch q j :=
  State.watch_congr (s.changeState_watches k state) q j

@[simp] theorem State.setEntry_watch (s : State) (k : Nat) (o : Option Entry) (q : Port) (j : WatchNo) :
    (s.setEntry k o).watch q j = s.watch q j := rfl

@[simp] theorem State.setEntry_port (s : State) (k : Nat) (o : Option Entry) (q : Port) :
    (s.setEntry k o).port q = s.port q := rfl

/-- A break that spares no slot. -/
theorem State.breakWatches_all (s : State) (hit : Cover → Bool) (c : BreakCause) (q : Port) (j : WatchNo) :
    (s.breakWatches hit c none).watch q j = (s.watch q j).breakBy hit c := s.breakWatches_watch hit c none q j

/-! ### A failed exchange at the table, the watches and the ports (R32, R33, R37, R109) -/

section
variable (s : State) {k : Nat} {e : Entry} (he : s.entry k = some e) (sentWrite : Bool)
include he

theorem State.setEntry_failed_entry : (s.setEntry k (some (e.failed s.loader.params sentWrite))).entry k
    = some (e.failed s.loader.params sentWrite) :=
  (s.setEntry_entry_of_some he _ k).trans (if_pos rfl)

theorem State.countFailure_entry (j : Nat) : (s.countFailure k e sentWrite).entry j
    = if j = k then some ((e.failed s.loader.params sentWrite).changedTo (e.failedState s.loader.params))
      else s.entry j := by
  have hbreak : (s.countFailure k e sentWrite).entry j
      = ((s.setEntry k (some (e.failed s.loader.params sentWrite))).changeState k
          (e.failedState s.loader.params)).entry j := by
    rw [s.countFailure_eq]
    split <;> rfl
  rw [hbreak, State.changeState_entry _ (s.setEntry_failed_entry he sentWrite), s.setEntry_entry_of_some he]
  split <;> rfl

theorem State.countFailure_changed (q : Port) : ((s.countFailure k e sentWrite).port q).sticky.changed
    = ((s.port q).sticky.changed || (decide (e.failedState s.loader.params ≠ e.state) && e.attached.get q)) := by
  have hstate := State.changeState_changed _ (s.setEntry_failed_entry he sentWrite) (e.failedState s.loader.params) q
  rw [s.countFailure_eq]
  split
  · rw [State.breakWatches_changed]; exact hstate
  · exact hstate

omit he in
theorem State.countFailure_watch (q : Port) (j : WatchNo) : (s.countFailure k e sentWrite).watch q j
    = if e.failedState s.loader.params = .offline ∧ (s.watch q j).state = .armed ∧ (s.watch q j).names e.address = true
      then { s.watch q j with state := .broken, cause := .offline } else s.watch q j := by
  rw [s.countFailure_eq]
  split
  next hoffline =>
    rw [State.breakWatches_all, State.changeState_watch, State.setEntry_watch]
    simp only [Watch.breakBy, Watch.hitBy_station, hoffline, true_and, Bool.and_eq_true, decide_eq_true_eq]
  next hoffline => rw [State.changeState_watch, State.setEntry_watch, if_neg fun h => hoffline h.1]

omit he in
theorem State.countFailure_broken (q : Port) : ((s.countFailure k e sentWrite).port q).sticky.broken
    = ((s.port q).sticky.broken || s.anyWatch q fun _ w => decide (e.failedState s.loader.params = .offline)
        && w.notify && decide (w.state = .armed) && w.names e.address) := by
  rw [s.countFailure_eq]
  split
  next hoffline =>
    rw [State.breakWatches_broken, State.changeState_broken]
    congr 1
    refine State.anyWatch_congr fun j => ?_
    rw [State.changeState_watch, State.setEntry_watch, Watch.hitBy_station, hoffline]
    simp [Bool.and_assoc]
  next hoffline =>
    rw [State.changeState_broken, State.setEntry_port]
    simp [hoffline, State.anyWatch]

end

/-! ### The watches (R71, R102, R105, R106) -/

/-- A CWRITE's own slot is emptied at its end, however it ended (R71, R115). -/
theorem State.ownWatchTakesEnd_cwrite (s : State) (x : Exchange) (o : Final) {p : Port} {j : WatchNo}
    (horigin : x.origin = .port p) (hkind : x.kind = .cwriteAsWrite) (hwatch : x.watchSlot = some j) :
    s.ownWatchTakesEnd x o = s.emptyWatch p j := by
  simp [State.ownWatchTakesEnd, horigin, hkind, hwatch]

/-- A watched READ that ended OK arms its slot (R102). -/
theorem State.ownWatchTakesEnd_read (s : State) (x : Exchange) (o : Final) {p : Port} {j : WatchNo}
    (horigin : x.origin = .port p) (hkind : x.kind = .read) (hwatch : x.watchSlot = some j) (ho : o.status = .ok) :
    s.ownWatchTakesEnd x o = s.setWatch p j
      (armedWatch s.loader.params.watchLifetime x.address x.first x.count (s.port p).flightNotify) := by
  simp [State.ownWatchTakesEnd, horigin, hkind, hwatch, ho]

/-- An exchange without a slot of its own claims none (R71). -/
theorem State.ownWatchTakesEnd_none (s : State) (x : Exchange) (o : Final)
    (h : x.watchSlot = none ∨ x.origin = .internal) : s.ownWatchTakesEnd x o = s := by
  unfold State.ownWatchTakesEnd
  rcases h with h | h <;> rw [h]
  cases x.origin <;> rfl

/-- An exchange that did not end OK claims a slot of its own for a CWRITE alone (R71, R115). -/
theorem State.ownWatchTakesEnd_watch_of_failed (s : State) (x : Exchange) (o : Final) (ho : o.status ≠ .ok) (q : Port)
    (j : WatchNo) (hnot : ¬ (x.kind = .cwriteAsWrite ∧ x.origin = .port q ∧ x.watchSlot = some j)) :
    (s.ownWatchTakesEnd x o).watch q j = s.watch q j := by
  unfold State.ownWatchTakesEnd
  split
  next p k horigin hwatch =>
    split
    · rw [if_neg ho]
    next hkind =>
      rw [State.emptyWatch, State.setWatch_watch, if_neg]
      rintro ⟨rfl, rfl⟩
      exact hnot ⟨hkind, horigin, hwatch⟩
    · rfl
  · rfl

theorem State.breaksTakeEnd_write (s : State) (x : Exchange) (o : Final) (hkind : x.kind = .write)
    (ho : o.status = .ok) :
    s.breaksTakeEnd x o = s.breakWatches (hitsWrite x.address x.first x.count) .write none := by
  simp [State.breaksTakeEnd, hkind, ho]

theorem State.breaksTakeEnd_cwrite (s : State) (x : Exchange) (o : Final) (hkind : x.kind = .cwriteAsWrite)
    (ho : o.status = .ok) :
    s.breaksTakeEnd x o = s.breakWatches (hitsWrite x.address x.first x.count) .write x.ownSlot := by
  simp [State.breaksTakeEnd, hkind, ho]

/-- Only an accepted write or broadcast breaks watches (R105-R107). -/
theorem State.breaksTakeEnd_none (s : State) (x : Exchange) (o : Final)
    (h : o.status ≠ .ok ∨ x.kind = .ping ∨ x.kind = .read ∨ x.kind = .poll) : s.breaksTakeEnd x o = s := by
  rcases h with h | h | h | h <;> simp [State.breaksTakeEnd, h]

/-! ### The router, the Arbiter and the ATTACHes that wait (R72, R85, R154) -/

theorem State.routerTakesEnd_none (s : State) (x : Exchange) (o : Final) (ho : o.report = none) :
    s.routerTakesEnd x o = s := by
  simp [State.routerTakesEnd, ho]

/-- A report does not touch an EMPTY slot (R104, R108). -/
theorem State.routerTakesEnd_emptySlot (s : State) (x : Exchange) (o : Final) {p : Port} {j : WatchNo}
    (h : s.watch p j = Watch.emptySlot) : (s.routerTakesEnd x o).watch p j = Watch.emptySlot := by
  unfold State.routerTakesEnd
  split
  next k _ items _ _ =>
    unfold State.route
    split
    · exact h
    · rw [State.watch_congr (State.updEntry_watches _ _ _), State.watch_congr (State.updPorts_watches _ _),
        State.breakWatches_watch, h, Watch.breakBy_emptySlot]
      split <;> rfl
  · exact h

theorem State.attachesTakeEnd_of_not_probe (s : State) (x : Exchange) (h : x.purpose ≠ .probe) :
    s.attachesTakeEnd x = s := by
  unfold State.attachesTakeEnd
  split
  · exact absurd ‹_› h
  · rfl

theorem State.arbiterTakesEnd_of_not_poll (s : State) (x : Exchange) (o : Final) (h : x.purpose ≠ .poll) :
    s.arbiterTakesEnd x o = s := by
  unfold State.arbiterTakesEnd
  split
  · exact absurd ‹_› h
  · rfl

@[simp] theorem State.arbiterTakesEnd_ports (s : State) (x : Exchange) (o : Final) :
    (s.arbiterTakesEnd x o).ports = s.ports := by
  unfold State.arbiterTakesEnd
  split <;> rfl

@[simp] theorem State.arbiterTakesEnd_watches (s : State) (x : Exchange) (o : Final) :
    (s.arbiterTakesEnd x o).watches = s.watches := by
  unfold State.arbiterTakesEnd
  split <;> rfl

/-! ### The port (R73, R163, R171) -/

@[simp] theorem State.portTakesEnd_watches (s : State) (x : Exchange) (o : Final) :
    (s.portTakesEnd x o).watches = s.watches := by
  unfold State.portTakesEnd
  split <;> rfl

theorem State.portTakesEnd_port (s : State) (x : Exchange) (o : Final) (q : Port) :
    (s.portTakesEnd x o).port q = if x.origin = .port q then (s.port q).takesEnd x o else s.port q := by
  unfold State.portTakesEnd
  cases x.origin with
  | internal => simp
  | port p =>
    simp only [State.updPort_port, Origin.port.injEq]
    by_cases h : q = p
    · subst h; simp
    · rw [if_neg h, if_neg (Ne.symm h)]

/-- A request that is no quiet WRITE ended OK ends with a completion record (R73, R163). -/
theorem PortUnit.takesEnd_completes (u : PortUnit) (x : Exchange) (o : Final) (r : Request) (hr : u.inFlight = some r)
    (hx : x.discard = false) (hrecord : (r.isWrite && r.quiet && decide (o.status = .ok)) = false) :
    u.takesEnd x o = { u with inFlight := none, completions := u.completions ++ [flightCompletion r x o] } := by
  simp only [PortUnit.takesEnd, hr, hx, hrecord, Bool.false_eq_true, if_false, PortUnit.endFlight, PortUnit.place]

/-- With the discard flag the port has its credit in place of a record, and CLOSING becomes CLOSED (R171). -/
theorem PortUnit.takesEnd_discarded (u : PortUnit) (x : Exchange) (o : Final) (r : Request) (hr : u.inFlight = some r)
    (hx : x.discard = true) : u.takesEnd x o = { u with
      inFlight := none, credits := u.credits + 1, state := if u.state = .closing then .closed else u.state } := by
  simp only [PortUnit.takesEnd, hr, hx, if_true, PortUnit.dropFlight]

@[simp] theorem PortUnit.takesEnd_sticky (u : PortUnit) (x : Exchange) (o : Final) :
    (u.takesEnd x o).sticky = u.sticky := by
  cases hu : u.inFlight with
  | none => simp only [PortUnit.takesEnd, hu]
  | some r =>
    cases hx : x.discard with
    | true => rw [u.takesEnd_discarded x o r hu hx]
    | false =>
      cases hrecord : r.isWrite && r.quiet && decide (o.status = .ok) with
      | false => rw [u.takesEnd_completes x o r hu hx hrecord]
      | true => simp [PortUnit.takesEnd, PortUnit.dropFlight, hu, hx, hrecord]

/-! ### All blocks together (R69) -/

/-- The exchange record idle, and all else as it was. -/
def State.recordIdle (s : State) : State := { s with exchange := none }

@[simp] theorem State.recordIdle_port (s : State) (p : Port) : s.recordIdle.port p = s.port p := rfl

/-- An orphaned exchange reaches the Arbiter and its port alone (R75). -/
theorem State.handEnd_orphan (s : State) (x : Exchange) (o : Final) (h : x.orphan = true) :
    s.handEnd x o = (s.recordIdle.arbiterTakesEnd x o).portTakesEnd x o := by
  simp only [State.handEnd, h, if_true]
  rfl

/-- Without the orphan flag every block takes the end in turn (R69). -/
theorem State.handEnd_not_orphan (s : State) (x : Exchange) (o : Final) (h : x.orphan = false) :
    s.handEnd x o = (((((s.recordIdle.tableTakesEnd x o).watchTakesEnd x o).routerTakesEnd x o).attachesTakeEnd
      x).arbiterTakesEnd x o).portTakesEnd x o := by
  simp only [State.handEnd, h, Bool.false_eq_true, if_false]
  rfl

/-- Without a new report, and no ATTACH waiting, the table and the Watch Unit take the end before the Arbiter and the
port. -/
theorem State.handEnd_unrouted (s : State) (x : Exchange) (o : Final) (h : x.orphan = false) (hreport : o.report = none)
    (hpurpose : x.purpose ≠ .probe) : s.handEnd x o
      = (((s.recordIdle.tableTakesEnd x o).watchTakesEnd x o).arbiterTakesEnd x o).portTakesEnd x o := by
  rw [s.handEnd_not_orphan x o h, State.routerTakesEnd_none _ x o hreport,
    State.attachesTakeEnd_of_not_probe _ x hpurpose]

/-- What the end of an exchange that is neither a probe nor a POLL leaves: what the outcome reaches, with the end taken
by the port. -/
theorem State.handEnd_reaches (s : State) (x : Exchange) (o : Final) (hprobe : x.purpose ≠ .probe)
    (hpoll : x.purpose ≠ .poll) : ∃ t, OutcomeReaches s.recordIdle t ∧ s.handEnd x o = t.portTakesEnd x o := by
  cases h : x.orphan with
  | true => exact ⟨_, .refl _, by rw [s.handEnd_orphan x o h, State.arbiterTakesEnd_of_not_poll _ x o hpoll]⟩
  | false =>
    refine ⟨_, ?_, by rw [s.handEnd_not_orphan x o h, State.attachesTakeEnd_of_not_probe _ x hprobe,
      State.arbiterTakesEnd_of_not_poll _ x o hpoll]⟩
    exact ((OutcomeReaches.tableTakesEnd _ x o).trans (.watchTakesEnd _ x o)).trans (.routerTakesEnd _ x o)

end Sys2Proof.Machine
end

section
/-! SUPPORT. The ends of a port's exchange (R70-R76): an accepted WRITE or CWRITE, a watched READ, a failure, and the
two flags. -/

namespace Sys2Proof.Machine

open Sys2Proof

/-! ### What the Watch Unit and the port leave -/

@[simp] theorem State.ownWatchTakesEnd_ports (s : State) (x : Exchange) (o : Final) :
    (s.ownWatchTakesEnd x o).ports = s.ports := by
  unfold State.ownWatchTakesEnd
  split
  · split
    · split <;> rfl
    · rfl
    · rfl
  · rfl

/-- A failed exchange hands the Watch Unit nothing but the claim of a CWRITE on its own slot (R71, R115). -/
theorem State.watchTakesEnd_of_failed (s : State) (x : Exchange) (o : Final) (ho : o.status ≠ .ok) :
    s.watchTakesEnd x o = if x.discard then s else s.ownWatchTakesEnd x o := by
  simp only [State.watchTakesEnd, s.breaksTakeEnd_none x o (.inl ho)]

theorem State.watchTakesEnd_ports_of_failed (s : State) (x : Exchange) (o : Final) (ho : o.status ≠ .ok) :
    (s.watchTakesEnd x o).ports = s.ports := by
  rw [s.watchTakesEnd_of_failed x o ho]
  split
  · rfl
  · exact s.ownWatchTakesEnd_ports x o

theorem State.watchTakesEnd_watch_of_failed (s : State) (x : Exchange) (o : Final) (ho : o.status ≠ .ok) (q : Port)
    (j : WatchNo) (hnot : ¬ (x.kind = .cwriteAsWrite ∧ x.origin = .port q ∧ x.watchSlot = some j)) :
    (s.watchTakesEnd x o).watch q j = s.watch q j := by
  rw [s.watchTakesEnd_of_failed x o ho]
  split
  · rfl
  · exact s.ownWatchTakesEnd_watch_of_failed x o ho q j hnot

@[simp] theorem State.attachesTakeEnd_watches (s : State) (x : Exchange) :
    (s.attachesTakeEnd x).watches = s.watches := by
  unfold State.attachesTakeEnd
  split
  · split <;> rfl
  · rfl

/-- The end of an exchange at its port sets no flag. -/
theorem State.portTakesEnd_sticky (s : State) (x : Exchange) (o : Final) (q : Port) :
    ((s.portTakesEnd x o).port q).sticky = (s.port q).sticky := by
  rw [State.portTakesEnd_port]
  split
  · exact PortUnit.takesEnd_sticky _ x o
  · rfl

theorem State.portTakesEnd_own (s : State) (x : Exchange) (o : Final) {p : Port} (horigin : x.origin = .port p) :
    (s.portTakesEnd x o).port p = (s.port p).takesEnd x o := by
  rw [State.portTakesEnd_port, if_pos horigin]

@[simp] theorem State.portTakesEnd_entry (s : State) (x : Exchange) (o : Final) (k : Nat) :
    (s.portTakesEnd x o).entry k = s.entry k := State.entry_congr (s.portTakesEnd_table x o) k

@[simp] theorem State.portTakesEnd_watch (s : State) (x : Exchange) (o : Final) (q : Port) (j : WatchNo) :
    (s.portTakesEnd x o).watch q j = s.watch q j := State.watch_congr (s.portTakesEnd_watches x o) q j

/-- Writing an entry over itself is no change. -/
theorem State.setEntry_self (s : State) {k : Nat} {e : Entry} (he : s.entry k = some e) :
    s.setEntry k (some e) = s := by
  have hk := s.lt_of_entry he
  rw [State.entry, List.getD_eq_getElem _ _ hk] at he
  rw [State.setEntry, ← he, List.set_getElem_self]

/-- An exchange that sent no WRITE frame, was no resync and brought no report leaves an entry as it is when it ends OK
(R38, R40). -/
theorem State.outcomeClaim_ok_same (s : State) (k : Nat) (x : Exchange) (o : Final) (ho : o.status = .ok)
    (hreport : o.report = none) (hwrite : x.sentWrite = false) (hpurpose : x.purpose ≠ .resync) :
    s.outcomeClaim k x o = s := by
  cases he : s.entry k with
  | none => simp only [State.outcomeClaim, he]
  | some e =>
    by_cases hstate : e.state = .online ∨ e.state = .suspect
    · rw [s.outcomeClaim_ok x o he hstate ho, e.exchangeOk_no_report x o hreport]
      simp only [hwrite, Bool.false_eq_true, if_false, hpurpose]
      exact s.setEntry_self he
    · simp only [State.outcomeClaim, he, if_neg hstate]

/-! ### An accepted write (R38, R105, R106) -/

/-- An accepted write with toggle `tog` at the table and the Watch Unit: the entry's toggle is the other one, and the
watches on the written range break, but for the slot spared. -/
def State.writeAccepted (s : State) (x : Exchange) (k : Nat) (e : Entry) (tog : Bool)
    (spare : Option (Port × WatchNo)) : State :=
  (s.recordIdle.setEntry k (some { e with toggle := some (!tog) })).breakWatches
    (hitsWrite x.address x.first x.count) .write spare

section
variable (s : State) (x : Exchange) (k : Nat) (e : Entry) (tog : Bool) (spare : Option (Port × WatchNo))

theorem OutcomeReaches.writeAccepted : OutcomeReaches s.recordIdle (s.writeAccepted x k e tog spare) :=
  (OutcomeReaches.setEntry _ k _).trans (.breakWatches _ _ _ _)

theorem State.writeAccepted_entry {k : Nat} {e : Entry} (he : s.entry k = some e) (j : Nat) :
    (s.writeAccepted x k e tog spare).entry j
      = if j = k then some { e with toggle := some (!tog) } else s.entry j :=
  s.recordIdle.setEntry_entry_of_some he _ j

theorem State.writeAccepted_watch (q : Port) (j : WatchNo) : (s.writeAccepted x k e tog spare).watch q j
    = if spare == some (q, j) then s.watch q j
      else (s.watch q j).breakBy (hitsWrite x.address x.first x.count) .write :=
  State.breakWatches_watch _ _ _ spare q j

theorem State.writeAccepted_broken (q : Port) : ((s.writeAccepted x k e tog spare).port q).sticky.broken
    = ((s.port q).sticky.broken || s.anyWatch q fun j w =>
        !(spare == some (q, j)) && w.notify && w.hitBy (hitsWrite x.address x.first x.count)) :=
  State.breakWatches_broken _ _ _ spare q

end

/-! ### The request of a port, neither orphaned nor discarded -/

/-- The exchange of a request of port p to the entry in slot k, with neither of its two flags set. -/
structure Exchange.PortRequest (x : Exchange) (p : Port) (k : Nat) : Prop where
  origin : x.origin = .port p
  purpose : x.purpose = .request
  slot : x.slot = some k
  orphan : x.orphan = false
  discard : x.discard = false

section
variable (s : State) {x : Exchange} {p : Port} {k : Nat} (h : x.PortRequest p k)
include h

/-- Its end at the four blocks that take it up. -/
theorem State.handEnd_request (o : Final) (hreport : o.report = none) : s.handEnd x o
    = (((s.recordIdle.outcomeClaim k x o).breaksTakeEnd x o).ownWatchTakesEnd x o).portTakesEnd x o := by
  rw [s.handEnd_unrouted x o h.orphan hreport (by simp [h.purpose]),
    State.arbiterTakesEnd_of_not_poll _ x o (by simp [h.purpose]),
    State.tableTakesEnd_claim _ x o h.slot (.inl h.purpose)]
  simp only [State.watchTakesEnd, h.discard, Bool.false_eq_true, if_false]

/-- An accepted WRITE: the toggle flips, the watches it meets break, and the port takes the end (R38, R105). -/
theorem State.handEnd_write {e : Entry} {tog : Bool} (hkind : x.kind = .write) (htoggle : x.toggleSent = some tog)
    (hwatch : x.watchSlot = none) (he : s.entry k = some e) (hstate : e.state = .online ∨ e.state = .suspect) :
    s.handEnd x { status := .ok }
      = (s.writeAccepted x k e tog none).portTakesEnd x { status := .ok } := by
  rw [s.handEnd_request h _ rfl, s.recordIdle.outcomeClaim_ok x _ he hstate rfl, e.exchangeOk_no_report x _ rfl,
    State.breaksTakeEnd_write _ x _ hkind rfl, State.ownWatchTakesEnd_none _ x _ (.inl hwatch),
    if_pos (x.sentWrite_iff.mpr (.inl hkind)), htoggle]
  rfl

/-- An accepted CWRITE does the same but for its own slot, which it empties (R106, R115). -/
theorem State.handEnd_cwrite {e : Entry} {tog : Bool} {j : WatchNo} (hkind : x.kind = .cwriteAsWrite)
    (htoggle : x.toggleSent = some tog) (hwatch : x.watchSlot = some j) (he : s.entry k = some e)
    (hstate : e.state = .online ∨ e.state = .suspect) :
    s.handEnd x { status := .ok }
      = ((s.writeAccepted x k e tog (some (p, j))).emptyWatch p j).portTakesEnd x { status := .ok } := by
  have hown : x.ownSlot = some (p, j) := by simp [Exchange.ownSlot, h.origin, hwatch]
  rw [s.handEnd_request h _ rfl, s.recordIdle.outcomeClaim_ok x _ he hstate rfl, e.exchangeOk_no_report x _ rfl,
    State.breaksTakeEnd_cwrite _ x _ hkind rfl, State.ownWatchTakesEnd_cwrite _ x _ h.origin hkind hwatch,
    if_pos (x.sentWrite_iff.mpr (.inr hkind)), htoggle, hown]
  rfl

/-- A watched READ that ended OK arms its slot, and the port takes the end (R102). -/
theorem State.handEnd_watchedRead {r : Request} {j : WatchNo} (o : Final) (hkind : x.kind = .read)
    (hwatch : x.watchSlot = some j) (hr : (s.port p).inFlight = some r) (ho : o.status = .ok)
    (hreport : o.report = none) :
    s.handEnd x o
      = (s.recordIdle.setWatch p j
          (armedWatch s.loader.params.watchLifetime x.address x.first x.count r.notify)).portTakesEnd x o := by
  have hwrite : x.sentWrite = false := by simp [Exchange.sentWrite, hkind]
  have hnotify : (s.recordIdle.port p).flightNotify = r.notify := by simp [PortUnit.flightNotify, hr]
  rw [s.handEnd_request h o hreport, s.recordIdle.outcomeClaim_ok_same k x o ho hreport hwrite (by simp [h.purpose]),
    State.breaksTakeEnd_none _ x o (.inr (.inr (.inl hkind))),
    State.ownWatchTakesEnd_read _ x o h.origin hkind hwatch ho, hnotify]
  rfl

/-- The slot of a CWRITE is EMPTY at its end, whatever the outcome (R115). -/
theorem State.handEnd_cwrite_watch {j : WatchNo} (o : Final) (hkind : x.kind = .cwriteAsWrite)
    (hwatch : x.watchSlot = some j) : (s.handEnd x o).watch p j = Watch.emptySlot := by
  rw [s.handEnd_not_orphan x o h.orphan, State.portTakesEnd_watch,
    State.watch_congr (State.arbiterTakesEnd_watches _ x o), State.watch_congr (State.attachesTakeEnd_watches _ x)]
  refine State.routerTakesEnd_emptySlot _ x o ?_
  simp only [State.watchTakesEnd, h.discard, Bool.false_eq_true, if_false]
  rw [State.ownWatchTakesEnd_cwrite _ x o h.origin hkind hwatch, State.emptyWatch, State.setWatch_watch,
    if_pos ⟨rfl, rfl⟩]

end

/-! ### The port at the end of its request -/

theorem Request.isWrite_of_isCwrite {r : Request} (h : r.isCwrite = true) : r.isWrite = false := by
  simp only [Request.isCwrite, beq_iff_eq] at h
  simp [Request.isWrite, h, reqCwrite, reqWrite]

theorem Request.isWrite_of_isRead {r : Request} (h : r.isRead = true) : r.isWrite = false := by
  simp only [Request.isRead, beq_iff_eq] at h
  simp [Request.isWrite, h, reqRead, reqWrite]

/-- No record but that of a READ that ended OK has a body (R73). -/
theorem flightCompletion_body (r : Request) (x : Exchange) (o : Final) (h : x.kind ≠ .read ∨ o.status ≠ .ok) :
    (flightCompletion r x o).body = [] := by
  show (if x.kind = .read ∧ o.status = .ok then packHalves o.values else []) = []
  rw [if_neg fun hread => h.elim (absurd hread.1) (absurd hread.2)]

theorem flightCompletion_body_read (r : Request) (x : Exchange) (o : Final) (hkind : x.kind = .read)
    (ho : o.status = .ok) : (flightCompletion r x o).body = packHalves o.values := if_pos ⟨hkind, ho⟩

/-- A port that takes the end of an exchange after its outcome has reached the other blocks: of what it held, only flags
and reports may differ. -/
theorem OutcomeReaches.takesEnd {s t : State} (h : OutcomeReaches s t) (x : Exchange) (o : Final) {p : Port}
    (horigin : x.origin = .port p) : ∃ f records,
      (t.portTakesEnd x o).port p = ({ s.port p with sticky := f, reports := records } : PortUnit).takesEnd x o := by
  obtain ⟨f, records, hport⟩ := h.port p
  exact ⟨f, records, by rw [State.portTakesEnd_own _ x o horigin, hport]⟩

/-- The record of a request that is no quiet WRITE ended OK (R73, R161). -/
theorem OutcomeReaches.record {s t : State} (h : OutcomeReaches s t) {x : Exchange} {o : Final} {p : Port} {r : Request}
    (horigin : x.origin = .port p) (hr : (s.port p).inFlight = some r) (hx : x.discard = false)
    (hrecord : (r.isWrite && r.quiet && decide (o.status = .ok)) = false) :
    ((t.portTakesEnd x o).port p).completions = (s.port p).completions ++ [flightCompletion r x o]
      ∧ ((t.portTakesEnd x o).port p).inFlight = none
      ∧ ((t.portTakesEnd x o).port p).credits = (s.port p).credits := by
  obtain ⟨f, records, hport⟩ := h.takesEnd x o horigin
  rw [hport, PortUnit.takesEnd_completes { s.port p with sticky := f, reports := records } x o r hr hx hrecord]
  exact ⟨rfl, rfl, rfl⟩

/-- The credit of a quiet WRITE that ended OK (R163). -/
theorem OutcomeReaches.credit {s t : State} (h : OutcomeReaches s t) {x : Exchange} {o : Final} {p : Port} {r : Request}
    (horigin : x.origin = .port p) (hr : (s.port p).inFlight = some r) (hx : x.discard = false)
    (hwrite : r.isWrite = true) (hquiet : r.quiet = true) (ho : o.status = .ok) :
    ((t.portTakesEnd x o).port p).completions = (s.port p).completions
      ∧ ((t.portTakesEnd x o).port p).credits = (s.port p).credits + 1 := by
  obtain ⟨f, records, hport⟩ := h.takesEnd x o horigin
  rw [hport, PortUnit.takesEnd_quiet { s.port p with sticky := f, reports := records } x o r hr hx hwrite hquiet ho]
  exact ⟨rfl, rfl⟩

/-- The credit of a discarded request, and the port that closes (R171). -/
theorem OutcomeReaches.discarded {s t : State} (h : OutcomeReaches s t) {x : Exchange} {o : Final} {p : Port}
    {r : Request} (horigin : x.origin = .port p) (hr : (s.port p).inFlight = some r) (hx : x.discard = true) :
    ((t.portTakesEnd x o).port p).completions = (s.port p).completions
      ∧ ((t.portTakesEnd x o).port p).inFlight = none
      ∧ ((t.portTakesEnd x o).port p).credits = (s.port p).credits + 1
      ∧ ((t.portTakesEnd x o).port p).state
        = (if (s.port p).state = .closing then .closed else (s.port p).state) := by
  obtain ⟨f, records, hport⟩ := h.takesEnd x o horigin
  rw [hport, PortUnit.takesEnd_discarded { s.port p with sticky := f, reports := records } x o r hr hx]
  exact ⟨rfl, rfl, rfl, rfl⟩

/-- The ports alone change when one takes its end. -/
theorem State.portTakesEnd_fields (s : State) (x : Exchange) (o : Final) :
    (s.portTakesEnd x o).exchange = s.exchange ∧ (s.portTakesEnd x o).line = s.line
      ∧ (s.portTakesEnd x o).arbiter = s.arbiter ∧ (s.portTakesEnd x o).routing = s.routing := by
  unfold State.portTakesEnd
  split <;> exact ⟨rfl, rfl, rfl, rfl⟩

/-- What the end of an exchange leaves of the line, the Arbiter and the Router after an outcome that has reached its
blocks. -/
theorem OutcomeReaches.fields {s t : State} (h : OutcomeReaches s.recordIdle t) (x : Exchange) (o : Final) :
    (t.portTakesEnd x o).exchange = none ∧ (t.portTakesEnd x o).line = s.line
      ∧ (t.portTakesEnd x o).arbiter = s.arbiter ∧ (t.portTakesEnd x o).routing = s.routing := by
  obtain ⟨hx, hline, harbiter, hrouting⟩ := t.portTakesEnd_fields x o
  exact ⟨hx.trans h.exchange, hline.trans h.line, harbiter.trans h.arbiter, hrouting.trans h.routing⟩

/-! ### A failed exchange (R32, R33, R109) -/

section
variable (s : State) {x : Exchange} {k : Nat} (o : Final)
  (hpurpose : x.purpose = .request ∨ x.purpose = .poll ∨ x.purpose = .resync) (hslot : x.slot = some k)
  (horphan : x.orphan = false) (hreport : o.report = none)
include hpurpose hslot horphan hreport

/-- The end of an exchange on an entry that claims an outcome (R32). -/
theorem State.handEnd_claimed : s.handEnd x o
    = (((s.recordIdle.outcomeClaim k x o).watchTakesEnd x o).arbiterTakesEnd x o).portTakesEnd x o := by
  rw [s.handEnd_unrouted x o horphan hreport (by rcases hpurpose with h | h | h <;> simp [h]),
    State.tableTakesEnd_claim _ x o hslot hpurpose]

theorem State.handEnd_claimed_entry (j : Nat) :
    (s.handEnd x o).entry j = (s.recordIdle.outcomeClaim k x o).entry j := by
  rw [s.handEnd_claimed o hpurpose hslot horphan hreport]
  exact State.entry_congr (by simp) j

variable {e : Entry} (he : s.entry k = some e) (hstate : e.state = .online ∨ e.state = .suspect)
  (ho : o.status = .noResponse ∨ o.status = .badReply)
include he hstate ho

theorem State.handEnd_failed_entry (j : Nat) : (s.handEnd x o).entry j
    = if j = k then some ((e.failed s.loader.params x.sentWrite).changedTo (e.failedState s.loader.params))
      else s.entry j := by
  rw [s.handEnd_claimed_entry o hpurpose hslot horphan hreport, s.recordIdle.outcomeClaim_failed x o he hstate ho]
  exact s.recordIdle.countFailure_entry he x.sentWrite j

theorem State.handEnd_failed_sticky (q : Port) : ((s.handEnd x o).port q).sticky
    = ((s.recordIdle.countFailure k e x.sentWrite).port q).sticky := by
  rw [s.handEnd_claimed o hpurpose hslot horphan hreport, s.recordIdle.outcomeClaim_failed x o he hstate ho,
    State.portTakesEnd_sticky, State.port, State.arbiterTakesEnd_ports,
    State.watchTakesEnd_ports_of_failed _ x o (by rcases ho with h | h <;> simp [h])]
  rfl

/-- The watches on a station gone OFFLINE break; the slot of a CWRITE is its own matter (R109, R115). -/
theorem State.handEnd_failed_watch (q : Port) (j : WatchNo)
    (hnot : ¬ (x.kind = .cwriteAsWrite ∧ x.origin = .port q ∧ x.watchSlot = some j)) : (s.handEnd x o).watch q j
      = if e.failedState s.loader.params = .offline ∧ (s.watch q j).state = .armed
          ∧ (s.watch q j).names e.address = true
        then { s.watch q j with state := .broken, cause := .offline } else s.watch q j := by
  rw [s.handEnd_claimed o hpurpose hslot horphan hreport, s.recordIdle.outcomeClaim_failed x o he hstate ho,
    State.portTakesEnd_watch, State.watch_congr (State.arbiterTakesEnd_watches _ x o),
    State.watchTakesEnd_watch_of_failed _ x o (by rcases ho with h | h <;> simp [h]) q j hnot]
  exact s.recordIdle.countFailure_watch x.sentWrite q j

end

/-! ### The two flags (R74, R75) -/

/-- A discarded READ that ended OK leaves the watches alone (R71, R74). -/
theorem State.handEnd_discarded_read (s : State) (x : Exchange) (o : Final) (hpurpose : x.purpose = .request)
    (hkind : x.kind = .read) (hdiscard : x.discard = true) (ho : o.status = .ok) (hreport : o.report = none) :
    (s.handEnd x o).watches = s.watches := by
  cases horphan : x.orphan with
  | true =>
    rw [s.handEnd_orphan x o horphan, State.portTakesEnd_watches, State.arbiterTakesEnd_watches]
    rfl
  | false =>
    have hwatch : ∀ t : State, t.watchTakesEnd x o = t := by
      intro t
      simp only [State.watchTakesEnd, hdiscard, if_true, t.breaksTakeEnd_none x o (.inr (.inr (.inl hkind)))]
    have htable : s.recordIdle.tableTakesEnd x o = s.recordIdle := by
      cases hslot : x.slot with
      | none => simp only [State.tableTakesEnd, hslot]
      | some k =>
        rw [State.tableTakesEnd_claim _ x o hslot (.inl hpurpose)]
        exact State.outcomeClaim_ok_same _ k x o ho hreport (by simp [Exchange.sentWrite, hkind]) (by simp [hpurpose])
    rw [s.handEnd_unrouted x o horphan hreport (by simp [hpurpose]), State.portTakesEnd_watches,
      State.arbiterTakesEnd_watches, hwatch, htable]
    rfl

/-- The end of an orphaned request reaches its port alone (R75). -/
theorem State.handEnd_orphan_request (s : State) (x : Exchange) (o : Final) (hpurpose : x.purpose = .request)
    (horphan : x.orphan = true) : s.handEnd x o = s.recordIdle.portTakesEnd x o := by
  rw [s.handEnd_orphan x o horphan, State.arbiterTakesEnd_of_not_poll _ x o (by simp [hpurpose])]

/-- A break spares the slot it names. -/
theorem beq_some_slot (p q : Port) (j i : WatchNo) : (some (p, j) == some (q, i)) = decide (q = p ∧ i = j) := by
  rw [Bool.eq_iff_iff]
  simp only [beq_iff_eq, Option.some.injEq, Prod.mk.injEq, decide_eq_true_eq]
  exact and_congr eq_comm eq_comm

end Sys2Proof.Machine
end

section
/-! CLAIM. The end of a port's exchange at every block. -/

open Sys2Proof Sys2Proof.Machine

/-- Settles O45: each end of a port's exchange is a change of the table, the watches and the notices, on which the port
takes its end. -/
theorem acceptedWriteFlipsTheToggleAndBreaksWatches : Obligations.AcceptedWriteFlipsTheToggleAndBreaksWatches := by
  refine ⟨?write, ?cwrite, ?read, ?failed, ?flags⟩
  case write =>
    intro s x p r k e tog horigin hkind hpurpose hslot horphan hdiscard htoggle hwatch hr hwrite he hstate
    have hend := s.handEnd_write ⟨horigin, hpurpose, hslot, horphan, hdiscard⟩ hkind htoggle hwatch he hstate
    have hreach := OutcomeReaches.writeAccepted s x k e tog none
    have hentry := s.writeAccepted_entry x tog none he
    obtain ⟨hidle, hline, harbiter, hrouting⟩ := hreach.fields x { status := .ok }
    simp only [hend]
    refine ⟨hidle, ?_, fun j hj => ?_, fun q j => ?_, fun q => ?_, ?_, fun hquiet => ?_, fun hquiet => ?_, hline,
      harbiter, hrouting⟩
    · rw [State.portTakesEnd_entry, hentry, if_pos rfl]
    · rw [State.portTakesEnd_entry, hentry, if_neg hj]
    · rw [State.portTakesEnd_watch, State.writeAccepted_watch]; rfl
    · rw [State.portTakesEnd_sticky, State.writeAccepted_broken]; rfl
    · rw [State.portTakesEnd_own _ x _ horigin, PortUnit.takesEnd_inFlight]
    · exact hreach.credit horigin hr hdiscard hwrite hquiet rfl
    · obtain ⟨hrecord, -, hcredits⟩ := hreach.record (o := { status := .ok }) horigin hr hdiscard (by simp [hquiet])
      exact ⟨_, hrecord, rfl, rfl, rfl, flightCompletion_body r x _ (.inl (by simp [hkind])), hcredits⟩
  case cwrite =>
    intro s x p r k e tog j horigin hkind hpurpose hslot horphan hdiscard htoggle hwatch hr hcwrite he hstate
    have hrequest : x.PortRequest p k := ⟨horigin, hpurpose, hslot, horphan, hdiscard⟩
    have hend := s.handEnd_cwrite hrequest hkind htoggle hwatch he hstate
    have hreach := (OutcomeReaches.writeAccepted s x k e tog (some (p, j))).trans (.setWatch _ p j Watch.emptySlot)
    obtain ⟨hidle, -⟩ := hreach.fields x { status := .ok }
    obtain ⟨hrecord, hflight, hcredits⟩ := hreach.record (o := { status := .ok }) horigin hr hdiscard
      (by simp [Request.isWrite_of_isCwrite hcwrite])
    refine ⟨?_, ?_, fun q i => ?_, fun q => ?_, ?_, ?_, ?_, fun o => s.handEnd_cwrite_watch hrequest o hkind hwatch⟩
    all_goals rw [hend]
    · exact hidle
    · rw [State.portTakesEnd_entry]
      exact (s.writeAccepted_entry x tog (some (p, j)) he k).trans (if_pos rfl)
    · rw [State.portTakesEnd_watch, State.emptyWatch, State.setWatch_watch]
      split
      · rfl
      next hother => rw [State.writeAccepted_watch, beq_some_slot, if_neg (by simpa using hother)]
    · rw [State.portTakesEnd_sticky]
      refine (s.writeAccepted_broken x k e tog (some (p, j)) q).trans ?_
      simp only [beq_some_slot]
    · exact hflight
    · exact hcredits
    · exact ⟨_, hrecord, rfl, rfl, rfl, flightCompletion_body r x _ (.inl (by simp [hkind]))⟩
  case read =>
    intro s x p r k j values horigin hkind hpurpose hslot horphan hdiscard hwatch hr hread
    have hend := s.handEnd_watchedRead ⟨horigin, hpurpose, hslot, horphan, hdiscard⟩ { status := .ok, values := values }
      hkind hwatch hr rfl rfl
    have hreach := OutcomeReaches.setWatch s.recordIdle p j
      (armedWatch s.loader.params.watchLifetime x.address x.first x.count r.notify)
    obtain ⟨hrecord, -, -⟩ := hreach.record (o := { status := .ok, values := values }) horigin hr hdiscard
      (by simp [Request.isWrite_of_isRead hread])
    simp only [hend]
    refine ⟨fun q i => ?_, fun i => ?_, _, hrecord, rfl, rfl, rfl, flightCompletion_body_read r x _ hkind rfl⟩
    · rw [State.portTakesEnd_watch, State.setWatch_watch]
      rfl
    · rw [State.portTakesEnd_entry]
      rfl
  case failed =>
    intro s x k e o hpurpose hslot horphan he hstate hreport
    refine ⟨fun ho => ?_, fun ho i => ?_⟩
    · have hsticky := s.handEnd_failed_sticky o hpurpose hslot horphan hreport he hstate ho
      have hentry := s.handEnd_failed_entry o hpurpose hslot horphan hreport he hstate ho
      refine ⟨?_, fun j hj => (hentry j).trans (if_neg hj), fun q => ?_,
        s.handEnd_failed_watch o hpurpose hslot horphan hreport he hstate ho, fun q => ?_⟩
      · rw [hentry, if_pos rfl]
        simp only [Entry.changedTo, Entry.failed, x.sentWrite_iff]
        rfl
      · rw [hsticky]
        exact s.recordIdle.countFailure_changed he x.sentWrite q
      · rw [hsticky]
        exact s.recordIdle.countFailure_broken x.sentWrite q
    · rw [s.handEnd_claimed_entry o hpurpose hslot horphan hreport, State.outcomeClaim_other]
      · rfl
      all_goals rcases ho with h | h <;> simp [h]
  case flags =>
    intro s x p r o horigin hpurpose hr
    obtain ⟨t, hreach, hend⟩ := s.handEnd_reaches x o (by simp [hpurpose]) (by simp [hpurpose])
    refine ⟨fun hdiscard => ?_,
      fun hdiscard hkind ho hreport => s.handEnd_discarded_read x o hpurpose hkind hdiscard ho hreport,
      fun horphan => ?_, fun hdiscard hrecord => ?_⟩
    · rw [hend]
      exact hreach.discarded horigin hr hdiscard
    · rw [s.handEnd_orphan_request x o hpurpose horphan]
      obtain ⟨-, -, harbiter, hrouting⟩ := s.recordIdle.portTakesEnd_fields x o
      refine ⟨State.portTakesEnd_table _ x o, State.portTakesEnd_watches _ x o, hrouting, fun q hq => ?_, harbiter⟩
      rw [State.portTakesEnd_port, if_neg (by rw [horigin]; simpa using Ne.symm hq)]
      rfl
    · obtain ⟨hcompletions, hflight, hcredits⟩ := hreach.record (o := o) horigin hr hdiscard (by
        rcases hrecord with h | h <;> simp [h])
      rw [hend]
      exact ⟨_, hcompletions, hflight, rfl, rfl, rfl, rfl, rfl, fun ho => flightCompletion_body r x o (.inr ho),
        hcredits⟩

end

section
/-! SUPPORT. The ends of a probe, a reprobe and a resync (R34, R36, R92, R93), the ATTACHes that wait on a probe (R154),
and the request of a pairing. -/

namespace Sys2Proof.Machine

open Sys2Proof

/-! ### A PING at the blocks -/

/-- The PING of a probe, a reprobe or a resync as the Engine holds it, its entry not freed. -/
structure Exchange.InternalPing (x : Exchange) (k : Nat) : Prop where
  origin : x.origin = .internal
  kind : x.kind = .ping
  slot : x.slot = some k
  orphan : x.orphan = false

/-- The end of a PING concerns the table, and the ATTACHes that wait on a probe. -/
theorem State.handEnd_ping (s : State) {x : Exchange} {k : Nat} (h : x.InternalPing k) (o : Final)
    (hpurpose : x.purpose ≠ .poll) (hreport : o.report = none) :
    s.handEnd x o = (s.recordIdle.tableTakesEnd x o).attachesTakeEnd x := by
  have hwatch : ∀ t : State, t.watchTakesEnd x o = t := by
    intro t
    simp only [State.watchTakesEnd, t.breaksTakeEnd_none x o (.inr (.inl h.kind)),
      t.ownWatchTakesEnd_none x o (.inr h.origin), ite_self]
  rw [s.handEnd_not_orphan x o h.orphan, State.arbiterTakesEnd_of_not_poll _ x o hpurpose,
    State.routerTakesEnd_none _ x o hreport, hwatch]
  simp only [State.portTakesEnd, h.origin]

/-! ### The end of a probe (R34, R48, R154) -/

/-- The state a probe takes its entry to (R34). -/
def Final.probedState (o : Final) : StationState := if o.status = .ok then .online else .offline

/-- The values a probe gives its entry, its state aside (R34). -/
def Entry.probeSettled (e : Entry) (o : Final) (params : LineParams) : Entry :=
  if o.status = .ok then e.probed (o.pong.getD (false, 0)) else { e with countdown := params.reprobeInterval }

theorem State.probeEnd_of_some (s : State) {k : Nat} {e : Entry} (he : s.entry k = some e) (o : Final) :
    s.probeEnd k o
      = (s.setEntry k (some (e.probeSettled o s.loader.params))).changeState k o.probedState := by
  unfold State.probeEnd Entry.probeSettled Final.probedState
  split
  next hok => rw [s.updEntry_of_some he, if_pos hok, if_pos hok]
  next hok =>
    rw [s.updEntry_of_some he, if_neg hok, if_neg hok]

@[simp] theorem Entry.probeSettled_state (e : Entry) (o : Final) (params : LineParams) :
    (e.probeSettled o params).state = e.state := by
  unfold Entry.probeSettled
  split <;> rfl

@[simp] theorem Entry.probeSettled_attached (e : Entry) (o : Final) (params : LineParams) :
    (e.probeSettled o params).attached = e.attached := by
  unfold Entry.probeSettled
  split <;> rfl

@[simp] theorem Entry.probeSettled_address (e : Entry) (o : Final) (params : LineParams) :
    (e.probeSettled o params).address = e.address := by
  unfold Entry.probeSettled
  split <;> rfl

/-- The completion of an ATTACH that waited on a probe (R154). -/
def attachCompletion (r : Request) (state : StationState) : Completion :=
  if state = .online then completionOf r .ok StationState.online.code 0 [] else completionOf r .offline 0 0 []

/-- The ATTACH at the head that waits on the address completes (R154). -/
theorem PortUnit.probeEnded_waiting (u : PortUnit) (a : Byte) (state : StationState) {r : Request} {rest : List Request}
    (hmark : u.headMark = .waiting) (hqueue : u.queue = r :: rest) (htop : r.top = a) :
    u.probeEnded a state = { u with
      completions := u.completions ++ [attachCompletion r state], queue := rest, headMark := .none } := by
  simp only [PortUnit.probeEnded, hmark, hqueue, htop, if_true, PortUnit.endHead, PortUnit.place, attachCompletion]

/-- Where no ATTACH waits a port is not told. -/
theorem PortUnit.probeEnded_not_waiting (u : PortUnit) (a : Byte) (state : StationState)
    (hmark : u.headMark ≠ .waiting) : u.probeEnded a state = u := by
  unfold PortUnit.probeEnded
  split
  · exact absurd ‹_› hmark
  · rfl

@[simp] theorem PortUnit.endHead_sticky (u : PortUnit) (c : Completion) : (u.endHead c).sticky = u.sticky := by
  unfold PortUnit.endHead
  split <;> rfl

@[simp] theorem PortUnit.probeEnded_sticky (u : PortUnit) (a : Byte) (state : StationState) :
    (u.probeEnded a state).sticky = u.sticky := by
  unfold PortUnit.probeEnded
  split
  · split
    · exact PortUnit.endHead_sticky u _
    · rfl
  · rfl

theorem State.attachesTakeEnd_probe (s : State) {x : Exchange} {k : Nat} {e : Entry} (hpurpose : x.purpose = .probe)
    (hslot : x.slot = some k) (he : s.entry k = some e) :
    s.attachesTakeEnd x = s.updPorts fun _ u => u.probeEnded e.address e.state := by
  simp only [State.attachesTakeEnd, hpurpose, hslot, he]

section
variable (s : State) {k : Nat} {e : Entry} (he : s.entry k = some e) (o : Final)
include he

theorem State.setEntry_probeSettled : (s.setEntry k (some (e.probeSettled o s.loader.params))).entry k
    = some (e.probeSettled o s.loader.params) :=
  (s.setEntry_entry_of_some he _ k).trans (if_pos rfl)

theorem State.probeEnd_entry (j : Nat) : (s.probeEnd k o).entry j
    = if j = k then some ((e.probeSettled o s.loader.params).changedTo o.probedState) else s.entry j := by
  rw [s.probeEnd_of_some he, State.changeState_entry _ (s.setEntry_probeSettled he o), s.setEntry_entry_of_some he]
  split <;> rfl

/-- A probe always changes the state of its entry: the attached ports have CHANGED set (R37). -/
theorem State.probeEnd_port (hprobing : e.state = .probing) (q : Port) : (s.probeEnd k o).port q
    = if e.attached.get q = true then { s.port q with sticky := (s.port q).sticky.setChanged } else s.port q := by
  have hne : e.state ≠ o.probedState := by
    rw [hprobing, Final.probedState]
    split <;> simp
  rw [s.probeEnd_of_some he, State.changeState_port _ (s.setEntry_probeSettled he o), Entry.probeSettled_state,
    Entry.probeSettled_attached]
  simp only [hne, ne_eq, not_false_eq_true, true_and]
  rfl

theorem State.probeEnd_watches : (s.probeEnd k o).watches = s.watches := by
  rw [s.probeEnd_of_some he, State.changeState_watches]
  rfl

variable {x : Exchange} (h : x.InternalPing k) (hpurpose : x.purpose = .probe) (hreport : o.report = none)
include h hpurpose hreport

/-- The end of a probe: the table settles the entry and tells the ports whose ATTACH waits on it (R34, R154). -/
theorem State.handEnd_probe : s.handEnd x o
    = (s.recordIdle.probeEnd k o).updPorts fun _ u => u.probeEnded e.address o.probedState := by
  have htable : s.recordIdle.tableTakesEnd x o = s.recordIdle.probeEnd k o := by
    simp only [State.tableTakesEnd, h.slot, hpurpose]
  have hentry := (s.recordIdle.probeEnd_entry he o k).trans (if_pos rfl)
  rw [s.handEnd_ping h o (by simp [hpurpose]) hreport, htable, State.attachesTakeEnd_probe _ hpurpose h.slot hentry]
  simp only [Entry.changedTo, Entry.probeSettled_address]

theorem State.handEnd_probe_port (hprobing : e.state = .probing) (q : Port) : ∃ f : Sticky,
    f.changed = ((s.port q).sticky.changed || e.attached.get q)
      ∧ (s.handEnd x o).port q = ({ s.port q with sticky := f } : PortUnit).probeEnded e.address o.probedState := by
  rw [s.handEnd_probe he o h hpurpose hreport, State.updPorts_port, s.recordIdle.probeEnd_port he o hprobing]
  cases hq : e.attached.get q with
  | true => exact ⟨(s.port q).sticky.setChanged, by simp [Sticky.setChanged], rfl⟩
  | false => exact ⟨(s.port q).sticky, by simp, rfl⟩

end

/-! ### The end of a reprobe (R36) -/

theorem State.handEnd_reprobe (s : State) {x : Exchange} {k : Nat} (h : x.InternalPing k) (o : Final)
    (hpurpose : x.purpose = .reprobe) (hreport : o.report = none) : s.handEnd x o = s.recordIdle.reprobeEnd k o := by
  rw [s.handEnd_ping h o (by simp [hpurpose]) hreport, State.attachesTakeEnd_of_not_probe _ x (by simp [hpurpose])]
  simp only [State.tableTakesEnd, h.slot, hpurpose]

theorem State.reprobeEnd_ok (s : State) {k : Nat} {e : Entry} (he : s.entry k = some e) (o : Final)
    (ho : o.status = .ok) : s.reprobeEnd k o
      = (s.setEntry k (some (e.reprobed (o.pong.getD (false, 0))))).changeState k .online := by
  simp only [State.reprobeEnd, ho, s.updEntry_of_some he]

theorem State.reprobeEnd_failed (s : State) {k : Nat} {e : Entry} (he : s.entry k = some e) (o : Final)
    (ho : o.status ≠ .ok) :
    s.reprobeEnd k o = s.setEntry k (some { e with countdown := s.loader.params.reprobeInterval }) := by
  unfold State.reprobeEnd
  split
  · exact absurd ‹_› ho
  · rw [s.updEntry_of_some he]

/-! ### The end of a resync (R91-R93) -/

theorem State.handEnd_resync (s : State) {x : Exchange} {k : Nat} (h : x.InternalPing k) (o : Final)
    (hpurpose : x.purpose = .resync) (hreport : o.report = none) :
    s.handEnd x o = s.recordIdle.outcomeClaim k x o := by
  rw [s.handEnd_ping h o (by simp [hpurpose]) hreport, State.attachesTakeEnd_of_not_probe _ x (by simp [hpurpose]),
    State.tableTakesEnd_claim _ x o h.slot (.inr (.inr hpurpose))]

/-- The table after a resync that ended OK: the toggle of the entry is 0 (R38). -/
def State.resynced (s : State) (k : Nat) (e : Entry) : State :=
  s.recordIdle.setEntry k (some { e with toggle := some false })

theorem State.resynced_entry (s : State) {k : Nat} {e : Entry} (he : s.entry k = some e) (j : Nat) :
    (s.resynced k e).entry j = if j = k then some { e with toggle := some false } else s.entry j :=
  s.recordIdle.setEntry_entry_of_some he _ j

theorem State.handEnd_resync_ok (s : State) {x : Exchange} {k : Nat} {e : Entry} (h : x.InternalPing k) (o : Final)
    (hpurpose : x.purpose = .resync) (hreport : o.report = none) (he : s.entry k = some e)
    (hstate : e.state = .online ∨ e.state = .suspect) (ho : o.status = .ok) :
    s.handEnd x o = s.resynced k e := by
  have hwrite : x.sentWrite = false := by simp [Exchange.sentWrite, h.kind]
  rw [s.handEnd_resync h o hpurpose hreport, s.recordIdle.outcomeClaim_ok x o he hstate ho,
    e.exchangeOk_no_report x o hreport, if_neg (by simp [hwrite]), if_pos hpurpose]
  rfl

/-- The paired request starts after OK, and fails otherwise (R92, R93). -/
theorem State.endExchange_resync (s : State) (x : Exchange) (o : Final) {p : Port} (hpurpose : x.purpose = .resync)
    (hpairing : (s.handEnd x o).arbiter.pairing = some p) : s.endExchange x o
      = if o.status = .ok then ((s.handEnd x o).startPaired p).settle false
        else (((s.handEnd x o).failPaired p x.attempt).choice).settle false := by
  simp only [State.endExchange, hpurpose, hpairing]

/-- A change that keeps the address of an entry keeps every address where it is (R27). -/
theorem State.slotOf_setEntry (s : State) {k : Nat} {e f : Entry} (he : s.entry k = some e)
    (hf : f.address = e.address) (a : Byte) : (s.setEntry k (some f)).slotOf a = s.slotOf a := by
  have hk := s.lt_of_entry he
  rw [State.entry, List.getD_eq_getElem _ _ hk] at he
  have hholds : ∀ (g : Option Entry → Bool), g (some f) = g (some e) →
      (s.table.set k (some f)).findIdx? g = s.table.findIdx? g := by
    intro g hg
    have hmap : ((s.table.set k (some f)).map g) = s.table.map g := by
      rw [List.map_set, hg, ← he, ← List.getElem_map g (h := by simpa using hk), List.set_getElem_self]
    have hid : ∀ l : List (Option Entry), l.findIdx? g = (l.map g).findIdx? id := by
      intro l
      rw [List.findIdx?_map]
      rfl
    rw [hid, hid, hmap]
  exact hholds _ (by simp only [hf])

theorem State.resynced_slotOf (s : State) {k : Nat} {e : Entry} (he : s.entry k = some e) (a : Byte) :
    (s.resynced k e).slotOf a = s.slotOf a :=
  s.recordIdle.slotOf_setEntry (f := { e with toggle := some false }) he rfl a

/-- A request that is no watched READ starts without a claim on a watch (R90). -/
theorem State.startRequest_unwatched (s : State) (p : Port) (r : Request) (x : Exchange)
    (h : r.isWatchedRead = false) : s.startRequest p r x
      = ({ s.updPort p (·.takeHead) with
            arbiter := { s.arbiter with used := s.arbiter.used + 1, pairing := none } } : State).startExchange x := by
  simp only [State.startRequest, h, Bool.false_eq_true, if_false]
  rfl

/-- The exchange of a port's write request stands in the record, and the request is in flight (R90, R92). -/
def State.writeStarted (s : State) (p : Port) (r : Request) (k : Nat) (t : Bool) : State :=
  ({ s.updPort p (·.takeHead) with
      arbiter := { s.arbiter with used := s.arbiter.used + 1, pairing := none } } : State).startExchange
    (writeExchange p r k t)

/-- A WRITE or CWRITE of a pairing, whose station's toggle is now known, starts with it (R92). -/
theorem State.startPaired_write (s : State) {p : Port} {r : Request} {rest : List Request} {k : Nat} {e : Entry}
    {t : Bool} (hqueue : (s.port p).queue = r :: rest) (hkind : r.isWrite = true ∨ r.isCwrite = true)
    (htop : r.top ≠ 0) (hslot : s.slotOf r.top = some k) (he : s.entry k = some e) (htoggle : e.toggle = some t) :
    s.startPaired p = s.writeStarted p r k t := by
  have hread : r.isRead = false := by
    rcases hkind with h | h
    · simp only [Request.isWrite, beq_iff_eq] at h
      simp [Request.isRead, h, reqRead, reqWrite]
    · simp only [Request.isCwrite, beq_iff_eq] at h
      simp [Request.isRead, h, reqRead, reqCwrite]
  have hbroadcast : r.isBroadcast = false := by
    rw [Request.isBroadcast, beq_eq_false_iff_ne.mpr htop, Bool.and_false]
  have hqueue' : (({ s with arbiter := { s.arbiter with pairing := none } } : State).port p).queue = r :: rest := hqueue
  have hslot' : ({ s with arbiter := { s.arbiter with pairing := none } } : State).slotOf r.top = some k := hslot
  have he' : ({ s with arbiter := { s.arbiter with pairing := none } } : State).entry k = some e := he
  simp only [State.startPaired, hqueue', State.startHead, hbroadcast, Bool.false_eq_true, if_false, hslot', he', hread,
    htoggle]
  exact State.startRequest_unwatched _ p r _ (by simp [Request.isWatchedRead, hread])

theorem PortUnit.takeHead_cons (u : PortUnit) {r : Request} {rest : List Request} (h : u.queue = r :: rest) :
    u.takeHead = { u with queue := rest, headMark := .none, inFlight := some r } := by
  simp only [PortUnit.takeHead, h]

theorem State.localReady_of_inFlight (s : State) (p : Port) (h : (s.port p).inFlight.isSome = true) :
    s.localReady p = false := by
  have hnone : (s.port p).inFlight.isNone = false := by
    rw [← Option.not_isSome, h]
    rfl
  unfold State.localReady
  split <;> simp [hnone]

theorem State.writeStarted_port (s : State) {p : Port} {r : Request} {rest : List Request} (k : Nat) (t : Bool)
    (hqueue : (s.port p).queue = r :: rest) (q : Port) : (s.writeStarted p r k t).port q
      = if q = p then { s.port p with queue := rest, headMark := .none, inFlight := some r } else s.port q := by
  rw [← PortUnit.takeHead_cons _ hqueue]
  exact s.updPort_port p q _

/-- The request in flight lets no local request of its port execute (R147). -/
theorem State.Quiet.writeStarted {s : State} (h : s.Quiet) {p : Port} {r : Request} {rest : List Request} (k : Nat)
    (t : Bool) (hqueue : (s.port p).queue = r :: rest) : (s.writeStarted p r k t).Quiet := by
  intro q
  have hport := s.writeStarted_port k t hqueue q
  by_cases hq : q = p
  · rw [if_pos hq] at hport
    exact State.localReady_of_inFlight _ q (by rw [hport]; rfl)
  · rw [if_neg hq] at hport
    exact (State.localReady_congr (s := s) (t := s.writeStarted p r k t) rfl hport).trans (h q)

/-! ### A pairing that fails (R93) -/

section
variable (s : State) {p : Port} {r : Request} {rest : List Request} (attempts : Nat)
  (hqueue : (s.port p).queue = r :: rest)
include hqueue

theorem State.failPaired_eq : s.failPaired p attempts
    = (if r.isCwrite then ({ s with arbiter := { s.arbiter with pairing := none } } : State).emptyWatch p r.slot
        else { s with arbiter := { s.arbiter with pairing := none } }).updPort p
          (·.endHead (completionOf r .noResponse 0 attempts [])) := by
  have hqueue' : (({ s with arbiter := { s.arbiter with pairing := none } } : State).port p).queue = r :: rest := hqueue
  simp only [State.failPaired, hqueue']

/-- The paired request completes, and the other ports are not told. -/
theorem State.failPaired_port (q : Port) : (s.failPaired p attempts).port q
    = if q = p then { s.port p with
        completions := (s.port p).completions ++ [completionOf r .noResponse 0 attempts []]
        queue := rest, headMark := .none }
      else s.port q := by
  have hhead : (s.port p).endHead (completionOf r .noResponse 0 attempts []) = { s.port p with
      completions := (s.port p).completions ++ [completionOf r .noResponse 0 attempts []]
      queue := rest, headMark := .none } := by
    simp only [PortUnit.endHead, hqueue, PortUnit.place]
  rw [s.failPaired_eq attempts hqueue, ← hhead]
  split <;> exact State.updPort_port _ p q _

theorem State.failPaired_rest : (s.failPaired p attempts).exchange = s.exchange
    ∧ (s.failPaired p attempts).arbiter = { s.arbiter with pairing := none }
    ∧ (s.failPaired p attempts).table = s.table := by
  rw [s.failPaired_eq attempts hqueue]
  split <;> exact ⟨rfl, rfl, rfl⟩

/-- The slot of a CWRITE that was paired is emptied (R93). -/
theorem State.failPaired_watch (hcwrite : r.isCwrite = true) :
    (s.failPaired p attempts).watch p r.slot = Watch.emptySlot := by
  rw [s.failPaired_eq attempts hqueue, if_pos hcwrite]
  exact (State.setWatch_watch _ p p r.slot r.slot Watch.emptySlot).trans (if_pos ⟨rfl, rfl⟩)

end

/-- A pairing that fails where nothing else waits leaves nothing to choose (R79, R93). -/
theorem State.failPaired_settled (s : State) {p : Port} {r : Request} (attempts : Nat)
    (hqueue : (s.port p).queue = [r]) (hothers : ∀ q, q ≠ p → (s.port q).queue = []) (hx : s.exchange = none)
    (hlist : s.arbiter.serviceList = []) (hcycle : s.arbiter.cycleOpen = false) :
    (s.failPaired p attempts).choice.settle false = s.failPaired p attempts := by
  obtain ⟨hx', harbiter, -⟩ := s.failPaired_rest attempts hqueue
  have hidle := hx'.trans hx
  have hwaits : (s.failPaired p attempts).NothingWaits := by
    refine ⟨fun q => ?_, by rw [harbiter]; exact hlist, by rw [harbiter]; exact hcycle⟩
    rw [s.failPaired_port attempts hqueue]
    split
    · rfl
    next hq => exact hothers q hq
  rw [State.choice_of_nothingWaits _ hwaits hidle]
  exact State.settleAll_of_nothingWaits _ _ _ hwaits hidle

end Sys2Proof.Machine
end

section
/-! CLAIM. The ends of probes, reprobes and resyncs. -/

open Sys2Proof Sys2Proof.Machine

/-- Settles O46: a probe and a reprobe settle their entry, a resync the toggle and then the pairing. -/
theorem probeEndSettlesTheEntry : Obligations.ProbeEndSettlesTheEntry := by
  refine ⟨?probe, ?reprobe, ?resync⟩
  case probe =>
    intro s x o k e hpurpose horigin hkind hslot horphan hreport he hprobing
    have hping : x.InternalPing k := ⟨horigin, hkind, hslot, horphan⟩
    have hend := s.handEnd_probe he o hping hpurpose hreport
    have hport := s.handEnd_probe_port he o hping hpurpose hreport hprobing
    have hentry : ∀ j, (s.handEnd x o).entry j = if j = k then
        some ((e.probeSettled o s.loader.params).changedTo o.probedState) else s.entry j := by
      intro j
      rw [hend]
      exact s.recordIdle.probeEnd_entry he o j
    have hprobed : o.probedState = .online ↔ o.status = .ok := by
      unfold Final.probedState
      split <;> simp [*]
    refine ⟨?_, ?_, fun j hj => (hentry j).trans (if_neg hj), ?_, fun q => ?_, fun q => ⟨?_, ?_⟩⟩
    · rw [hend]
      exact (OutcomeReaches.probeEnd s.recordIdle k o).exchange
    · rw [hentry, if_pos rfl]
      by_cases ho : o.status = .ok
      · simp [Entry.changedTo, Entry.probeSettled, Entry.probed, Final.probedState, ho, hprobing]
      · simp [Entry.changedTo, Entry.probeSettled, Final.probedState, ho, hprobing]
    · rw [hend]
      exact s.recordIdle.probeEnd_watches he o
    · obtain ⟨f, hf, hq⟩ := hport q
      rw [hq, PortUnit.probeEnded_sticky]
      exact hf
    · intro r rest hmark hqueue htop
      obtain ⟨f, -, hq⟩ := hport q
      rw [hq, PortUnit.probeEnded_waiting { s.port q with sticky := f } _ _ hmark hqueue htop]
      refine ⟨rfl, rfl, rfl, _, rfl, ?_⟩
      show _ ∧ _ = (if o.probedState = .online then _ else _) ∧ _ = (if o.probedState = .online then _ else _)
      unfold attachCompletion
      split <;> exact ⟨rfl, rfl, rfl⟩
    · intro hmark
      obtain ⟨f, -, hq⟩ := hport q
      rw [hq, PortUnit.probeEnded_not_waiting { s.port q with sticky := f } _ _ hmark]
      exact ⟨rfl, rfl⟩
  case reprobe =>
    intro s x o k e hpurpose horigin hkind hslot horphan hreport he hoffline
    have hend := s.handEnd_reprobe ⟨horigin, hkind, hslot, horphan⟩ o hpurpose hreport
    have hset := s.recordIdle.setEntry_entry_of_some he
    by_cases ho : o.status = .ok
    · have hreprobed : (s.recordIdle.setEntry k (some (e.reprobed (o.pong.getD (false, 0))))).entry k
          = some (e.reprobed (o.pong.getD (false, 0))) := (hset _ k).trans (if_pos rfl)
      have hentry := State.changeState_entry _ hreprobed .online
      rw [s.recordIdle.reprobeEnd_ok he o ho] at hend
      simp only [hend]
      refine ⟨State.changeState_exchange _ k _, State.changeState_watches _ k _, fun j hj => ?_,
        fun _ => ⟨?_, fun q => ?_⟩, fun hfailed => absurd ho hfailed⟩
      · rw [hentry, if_neg hj, hset, if_neg hj]
        rfl
      · rw [hentry, if_pos rfl]
        simp [Entry.changedTo, Entry.reprobed, hoffline]
      · rw [State.changeState_port _ hreprobed]
        simp [Entry.reprobed, hoffline, Sticky.setChanged]
    · rw [s.recordIdle.reprobeEnd_failed he o ho] at hend
      simp only [hend]
      exact ⟨rfl, rfl, fun j hj => (hset _ j).trans (if_neg hj), fun hok => absurd hok ho,
        fun _ => ⟨(hset _ k).trans (if_pos rfl), rfl⟩⟩
  case resync =>
    intro s x o p r rest k e hpurpose horigin hkind hslot horphan hreport he hstate hpairing hqueue hrequest hslotOf
      htop hquiet
    have hping : x.InternalPing k := ⟨horigin, hkind, hslot, horphan⟩
    have hreach : OutcomeReaches s.recordIdle (s.handEnd x o) := by
      rw [s.handEnd_resync hping o hpurpose hreport]
      exact .outcomeClaim _ k x o
    have hresync := s.endExchange_resync x o hpurpose ((congrArg Arbiter.pairing hreach.arbiter).trans hpairing)
    refine ⟨fun ho => ?_, fun ho hrest hothers hlist hcycle => ?_⟩
    · have hentry := s.resynced_entry he
      have hport := (s.resynced k e).writeStarted_port k false hqueue
      have hquiet' : (s.resynced k e).Quiet := hquiet.of_ports rfl rfl
      rw [hresync, if_pos ho, s.handEnd_resync_ok hping o hpurpose hreport he hstate ho,
        (s.resynced k e).startPaired_write hqueue hrequest htop ((s.resynced_slotOf he r.top).trans hslotOf)
          ((hentry k).trans (if_pos rfl)) rfl,
        State.settle_of_quiet _ false (hquiet'.writeStarted k false hqueue) (.inl rfl)]
      exact ⟨writeExchange p r k false, rfl, rfl, rfl, rfl, rfl, rfl, rfl, rfl, rfl, rfl, (hport p).trans (if_pos rfl),
        fun q hq => (hport q).trans (if_neg hq), (hentry k).trans (if_pos rfl),
        fun j hj => (hentry j).trans (if_neg hj), rfl, rfl⟩
    · subst hrest
      have hqueues : ∀ q, ((s.handEnd x o).port q).queue = (s.port q).queue := by
        intro q
        obtain ⟨f, records, hport⟩ := hreach.port q
        rw [hport]
        rfl
      have hqueue' := (hqueues p).trans hqueue
      obtain ⟨hx, harbiter, htable⟩ := (s.handEnd x o).failPaired_rest x.attempt hqueue'
      have hport := ((s.handEnd x o).failPaired_port x.attempt hqueue' p).trans (if_pos rfl)
      obtain ⟨f, records, hp⟩ := hreach.port p
      rw [hp] at hport
      rw [hresync, if_neg ho, (s.handEnd x o).failPaired_settled x.attempt hqueue'
        (fun q hq => (hqueues q).trans (hothers q hq)) hreach.exchange (by rw [hreach.arbiter]; exact hlist)
        (by rw [hreach.arbiter]; exact hcycle)]
      refine ⟨hx.trans hreach.exchange, by rw [harbiter], by rw [hport], by rw [hport], by rw [hport]; rfl,
        ⟨_, by rw [hport]; rfl, rfl, rfl, rfl, rfl, rfl⟩, (s.handEnd x o).failPaired_watch x.attempt hqueue',
        fun hnone hbad => ?_⟩
      rw [htable, s.handEnd_resync hping o hpurpose hreport, State.outcomeClaim_other _ k x o ho hnone hbad]
      rfl

end

section
/-! SUPPORT. A failed attempt and its retry (R58-R60), and the expiry of the timers of the exchange record (R55,
R68). -/

namespace Sys2Proof.Machine

open Sys2Proof

@[simp] theorem exec_replyTimerExpiry (s : State) : exec .replyTimerExpiry s = execReplyTimerExpiry s := rfl

@[simp] theorem exec_retryGapEnd (s : State) : exec .retryGapEnd s = execRetryGapEnd s := rfl

@[simp] theorem exec_holdoffExpiry (s : State) : exec .holdoffExpiry s = execHoldoffExpiry s := rfl

/-! ### A failed attempt and its retry (R58-R60) -/

/-- What a failed attempt leaves in the record, the retry decision aside (R58). -/
def Exchange.failed (x : Exchange) (f : Failure) : Exchange :=
  { x with lastFailure := some f, replyTimer := none, buffer := [], nextIndex := 0 }

/-- A failed attempt has no more use for the timer, the buffer and the index of the record (R58). -/
theorem State.failAttempt_congr (s : State) {x y : Exchange} {f : Failure} (h : x.failed f = y.failed f) :
    s.failAttempt x f = s.failAttempt y f := by
  show s.failAttempt (x.failed f) f = s.failAttempt (y.failed f) f
  rw [h]

/-- On an idle line the retry drives the same frame at once (R3, R60). -/
theorem State.retry_at_gap (s : State) (x : Exchange) (hidle : s.line.idle = Config.frameGap) :
    s.retry x = { s with
      exchange := some { x with attempt := x.attempt + 1, phase := .sending }, line := s.line.drive x.frame } := by
  simp [State.retry, LineInterface.give, hidle]

/-- A failed attempt that is not the last is sent again at once on a line that has stood idle for the gap (R60). -/
theorem State.failAttempt_retries (s : State) (x : Exchange) (f : Failure)
    (h : x.attempt < 1 + s.loader.params.retryLimit) (hidle : s.line.idle = Config.frameGap) :
    s.failAttempt x f = { s with
      exchange := some { x.failed f with attempt := x.attempt + 1, phase := .sending }
      line := s.line.drive x.frame } := by
  have hretry : s.failAttempt x f = s.retry { x.failed f with phase := .retryGap } := by
    simp [State.failAttempt, Exchange.failed, h, hidle]
  rw [hretry, s.retry_at_gap _ hidle]
  rfl

/-- The retry gap ends when the idle count stands at 44 (R60). -/
theorem State.gapEnds_at_gap (s : State) {x : Exchange} (hx : s.exchange = some x) (hphase : x.phase = .retryGap)
    (hidle : s.line.idle = Config.frameGap) : s.gapEnds = s.retry x := by
  simp [State.gapEnds, hx, hphase, hidle]

/-- Outside RETRY_GAP no gap ends (log 9). -/
theorem execRetryGapEnd_elsewhere (s : State) (h : ∀ x, s.exchange = some x → x.phase ≠ .retryGap) :
    execRetryGapEnd s = .next s := by
  have hgap : s.inRetryGap = false := by
    cases hx : s.exchange with
    | none => simp [State.inRetryGap, hx]
    | some x => simp [State.inRetryGap, hx, h x hx]
  simp [execRetryGapEnd, hgap]

/-- In RETRY_GAP the idle bit times still wanting pass on a high line, and the same frame is driven again (R60;
log 4). -/
theorem execRetryGapEnd_retries (s : State) {x : Exchange} (hx : s.exchange = some x) (hphase : x.phase = .retryGap)
    (hreply : x.replyTimer = none) (hholdoff : x.holdoffTimer = none) (hlow : s.line.low = false)
    (hidle : s.line.idle ≤ Config.frameGap) : execRetryGapEnd s = .next { s with
      exchange := some { x with attempt := x.attempt + 1, phase := .sending }, line := s.line.drive x.frame } := by
  have hgap : s.inRetryGap = true := by simp [State.inRetryGap, hx, hphase]
  have hrecord : ∀ y, s.exchange = some y → y = x := fun y hy => Option.some.inj (hy.symm.trans hx)
  have hstopped : s.TimersStopped := fun y hy => by rw [hrecord y hy]; exact ⟨hreply, hholdoff⟩
  obtain ⟨rx, hlapse⟩ := s.lapse_to_gap hlow hidle hstopped fun y hy => by simp [hrecord y hy, hphase]
  have hpassed : s.lapse (Config.frameGap - s.line.idle) = (s.withIdle Config.frameGap).setRx rx := hlapse
  have hx' : ((s.withIdle Config.frameGap).setRx rx).exchange = some x := hx
  rw [execRetryGapEnd, if_pos hgap, hpassed, State.gapEnds_at_gap _ hx' hphase rfl, State.retry_at_gap _ x rfl]
  rfl

/-! ### The two timers (R55, R68) -/

theorem State.elapse_exchange (s : State) {x : Exchange} (hx : s.exchange = some x) (n : Nat) :
    (s.elapse n).exchange = some (x.elapse n) := by
  simp [State.elapse, hx]

/-- A failed attempt does not see the time that its reply timer has run. -/
theorem Exchange.elapse_failed (x : Exchange) (n : Nat) (f : Failure) (hholdoff : x.holdoffTimer = none) :
    (x.elapse n).failed f = x.failed f := by
  simp [Exchange.elapse, Exchange.failed, hholdoff]

/-- An open receiver that waits for a frame is not within one. -/
theorem Receiver.midFrame_of_hunting {rx : Receiver} (h : rx = .hunting) : rx.midFrame = false := by
  rw [h]
  rfl

/-- Outside AWAITING the reply timer does not expire (R55). -/
theorem execReplyTimerExpiry_elsewhere (s : State) (h : ∀ x, s.exchange = some x → x.phase ≠ .awaiting) :
    execReplyTimerExpiry s = .next s := by
  have hleft : s.replyLeft = none := by
    cases hx : s.exchange with
    | none => simp [State.replyLeft, hx]
    | some x => simp [State.replyLeft, hx, h x hx]
  simp [execReplyTimerExpiry, hleft]

/-- In AWAITING what is left of the reply timer passes, and the attempt fails with TIMEOUT (R55, R58; log 4). -/
theorem execReplyTimerExpiry_awaiting (s : State) {x : Exchange} {n : Nat} (hx : s.exchange = some x)
    (hphase : x.phase = .awaiting) (htimer : x.replyTimer = some n) (hholdoff : x.holdoffTimer = none)
    (hrx : s.line.rx = .hunting) : execReplyTimerExpiry s = .next ((s.elapse n).failAttempt x .timeout) := by
  have hleft : s.replyLeft = some n := by simp [State.replyLeft, hx, hphase, htimer]
  have hexpired : (s.elapse n).replyExpired = (s.elapse n).failAttempt (x.elapse n) .timeout := by
    simp [State.replyExpired, s.elapse_exchange hx, Exchange.elapse, hphase, htimer]
  simp only [execReplyTimerExpiry, hleft, s.lapse_no_frame n (Receiver.midFrame_of_hunting hrx), hexpired,
    State.failAttempt_congr _ (x.elapse_failed n .timeout hholdoff)]

/-- Outside HOLDOFF the hold-off does not expire (log 9). -/
theorem execHoldoffExpiry_elsewhere (s : State) (h : ∀ x, s.exchange = some x → x.phase ≠ .holdoff) :
    execHoldoffExpiry s = .next s := by
  have hleft : s.holdoffLeft = none := by
    cases hx : s.exchange with
    | none => simp [State.holdoffLeft, hx]
    | some x => simp [State.holdoffLeft, hx, h x hx]
  simp [execHoldoffExpiry, hleft]

/-- In HOLDOFF what is left of the hold-off passes, and the broadcast ends (R68; log 4). -/
theorem execHoldoffExpiry_holding (s : State) {x : Exchange} {n : Nat} (hx : s.exchange = some x)
    (hphase : x.phase = .holdoff) (htimer : x.holdoffTimer = some n) (hrx : s.line.rx = .hunting) :
    execHoldoffExpiry s = .next ((s.elapse n).endBroadcast (x.elapse n)) := by
  have hleft : s.holdoffLeft = some n := by simp [State.holdoffLeft, hx, hphase, htimer]
  have hexpired : (s.elapse n).holdoffExpired = (s.elapse n).endBroadcast (x.elapse n) := by
    simp [State.holdoffExpired, s.elapse_exchange hx, Exchange.elapse, hphase, htimer]
  simp only [execHoldoffExpiry, hleft, s.lapse_no_frame n (Receiver.midFrame_of_hunting hrx), hexpired]

/-- The passing of time puts nothing in any queue. -/
theorem State.NothingWaits.elapse {s : State} (h : s.NothingWaits) (n : Nat) : (s.elapse n).NothingWaits :=
  ⟨h.queues, h.service, h.cycle⟩

/-! ### The end of a request where nothing waits (R69, R79) -/

/-- The end of a request puts nothing in any queue. -/
theorem State.handEnd_nothingWaits (s : State) (x : Exchange) (o : Final) (hpurpose : x.purpose = .request)
    (h : s.NothingWaits) : (s.handEnd x o).NothingWaits := by
  obtain ⟨t, hreach, hend⟩ := s.handEnd_reaches x o (by simp [hpurpose]) (by simp [hpurpose])
  obtain ⟨-, -, harbiter, -⟩ := hreach.fields x o
  rw [hend]
  refine ⟨fun q => ?_, by rw [harbiter]; exact h.service, by rw [harbiter]; exact h.cycle⟩
  obtain ⟨f, records, hport⟩ := hreach.port q
  have hqueue : (t.port q).queue = [] := by rw [hport]; exact h.queues q
  rw [State.portTakesEnd_port]
  split
  · rw [PortUnit.takesEnd_queue, hqueue]
  · exact hqueue

/-- Where nothing waits the end of a request is its end at the blocks, and nothing follows. -/
theorem State.endExchange_request_of_nothingWaits (s : State) (x : Exchange) (o : Final)
    (hpurpose : x.purpose = .request) (h : s.NothingWaits) : s.endExchange x o = s.handEnd x o := by
  obtain ⟨t, hreach, hend⟩ := s.handEnd_reaches x o (by simp [hpurpose]) (by simp [hpurpose])
  refine s.endExchange_of_nothingWaits x o (by simp [hpurpose]) (s.handEnd_nothingWaits x o hpurpose h) ?_
  rw [hend]
  exact (hreach.fields x o).1

/-- The TIMEOUT of a request's last attempt, where nothing waits, is its end NORESPONSE at the blocks (R59, R69). -/
theorem execReplyTimerExpiry_last (s : State) {x : Exchange} {n : Nat} (hx : s.exchange = some x)
    (hphase : x.phase = .awaiting) (htimer : x.replyTimer = some n) (hholdoff : x.holdoffTimer = none)
    (hpurpose : x.purpose = .request) (hlast : x.attempt = 1 + s.loader.params.retryLimit) (hrx : s.line.rx = .hunting)
    (hwaits : s.NothingWaits) : execReplyTimerExpiry s
      = .next ((s.elapse n).handEnd (x.failed .timeout) { status := .noResponse }) := by
  rw [execReplyTimerExpiry_awaiting s hx hphase htimer hholdoff hrx, (s.elapse n).failAttempt_last x .timeout hlast.ge]
  exact congrArg _ ((s.elapse n).endExchange_request_of_nothingWaits (x.failed .timeout) _ hpurpose (hwaits.elapse n))

/-! ### The state of an entry after a failed exchange (R32, R33) -/

theorem Entry.failedState_at_threshold (e : Entry) {params : LineParams}
    (h : e.failures + 1 = params.failureThreshold) : e.failedState params = .offline := if_pos h

theorem Entry.failedState_below_threshold (e : Entry) {params : LineParams}
    (h : e.failures + 1 ≠ params.failureThreshold) : e.failedState params = .suspect := if_neg h

end Sys2Proof.Machine
end

section
/-! CLAIM. The timers of the exchange record and the retry. -/

open Sys2Proof Sys2Proof.Machine

/-- Settles O41: the attempt fails with the time that has passed on the line, and the gap ends at an idle count of
44. -/
theorem retriesSendTheFrameAgain : Obligations.RetriesSendTheFrameAgain := by
  refine ⟨fun s => ⟨execReplyTimerExpiry_elsewhere s, ?_⟩, fun s => ⟨execRetryGapEnd_elsewhere s, ?_⟩⟩
  · intro x n hx hphase htimer hholdoff hrx hlow hlast
    rw [exec_replyTimerExpiry, execReplyTimerExpiry_awaiting s hx hphase htimer hholdoff hrx]
    have hline := s.line.elapse_high n hlow
    refine ⟨fun hgap => ?_, fun hgap => ?_⟩
    · have hidle : (s.elapse n).line.idle = Config.frameGap := by
        rw [State.elapse_line, hline]
        exact Nat.min_eq_left hgap
      rw [(s.elapse n).failAttempt_retries x .timeout hlast hidle, State.elapse_line, hline]
      rfl
    · have hcount : min Config.frameGap (s.line.idle + n) = s.line.idle + n := Nat.min_eq_right hgap.le
      have hidle : (s.elapse n).line.idle ≠ Config.frameGap := by
        rw [State.elapse_line, hline, hcount]
        exact hgap.ne
      rw [(s.elapse n).failAttempt_gap x .timeout hlast hidle, ← hcount, ← hline]
      rfl
  · intro x hx hphase hreply hholdoff hlow hidle
    rw [exec_retryGapEnd, execRetryGapEnd_retries s hx hphase hreply hholdoff hlow hidle]
    rfl

/-- Settles O42: the last TIMEOUT is a failed READ at the table and at its port, and nothing else is waiting. -/
theorem lastTimeoutCompletesNoResponse : Obligations.LastTimeoutCompletesNoResponse := by
  intro s x p r k n e hx hphase htimer hholdoff horigin hpurpose hkind hslot horphan hdiscard hlast hr he hstate hrx
    hwaits
  have hexec := execReplyTimerExpiry_last s hx hphase htimer hholdoff hpurpose hlast hrx hwaits
  obtain ⟨t, hreach, hend⟩ := (s.elapse n).handEnd_reaches (x.failed .timeout) { status := .noResponse }
    (by simp [Exchange.failed, hpurpose]) (by simp [Exchange.failed, hpurpose])
  obtain ⟨hcompletions, hflight, hcredits⟩ := hreach.record (x := x.failed .timeout) (o := { status := .noResponse })
    horigin hr hdiscard (by simp)
  have hidle := (hreach.fields (x.failed .timeout) { status := .noResponse }).1
  have hwrite : (x.failed .timeout).sentWrite = false := by simp [Exchange.sentWrite, Exchange.failed, hkind]
  have hentry := (s.elapse n).handEnd_failed_entry (x := x.failed .timeout) { status := .noResponse } (.inl hpurpose)
    hslot horphan rfl he hstate (.inl rfl) k
  rw [if_pos rfl, hwrite] at hentry
  rw [← hend] at hcompletions hflight hcredits hidle
  refine ⟨_, _, _, hexec, hidle, hcompletions, hflight, hcredits, rfl, rfl, rfl,
    flightCompletion_body r _ _ (.inr (by simp)), hentry, rfl, rfl, rfl, fun hcount => ?_, fun hcount => ?_⟩
  · have hoffline := e.failedState_at_threshold hcount
    simp [Entry.changedTo, Entry.failed, hoffline]
  · have hsuspect := e.failedState_below_threshold hcount
    simp [Entry.changedTo, Entry.failed, hsuspect]

/-- Settles O43: the hold-off that has run out ends the broadcast where nothing else is waiting. -/
theorem holdoffExpiryEndsTheBroadcast : Obligations.HoldoffExpiryEndsTheBroadcast := by
  refine fun s => ⟨execHoldoffExpiry_elsewhere s, ?_⟩
  intro x n p r hx hphase htimer horigin hpurpose hkind hslot horphan hdiscard hattempt hwatch hr hrx hwaits
  have hb : (x.elapse n).PortBroadcast p := ⟨hkind, horigin, hpurpose, hslot, horphan, hdiscard, hwatch⟩
  have hexec : exec .holdoffExpiry s = .next ((s.elapse n).broadcastEnded (x.elapse n) p) := by
    rw [exec_holdoffExpiry, execHoldoffExpiry_holding s hx hphase htimer hrx,
      (s.elapse n).endBroadcast_of_nothingWaits _ p hb (hwaits.elapse n)]
  refine ⟨_, hexec, rfl, rfl, (s.elapse n).broadcastEnded_inFlight _ p, (s.elapse n).broadcastEnded_watch _ p,
    (s.elapse n).broadcastEnded_quiet _ p r hr hdiscard, fun hquiet => ?_⟩
  obtain ⟨hrecord, hcredits⟩ := (s.elapse n).broadcastEnded_record _ p r hr hdiscard hquiet
  exact ⟨_, hrecord, rfl, hattempt, rfl, hcredits⟩

end

section
/-! SUPPORT. The frame reports and the replies of a station (R56, R57, R62-R67), and the end of a POLL at its entry
(R40, R72). -/

namespace Sys2Proof.Machine

open Sys2Proof

/-! ### The fragments of an ANSWER and a REFUSE (R63, R66) -/

/-- A fragment that fails one of the five checks of R63. -/
def Exchange.BadFragment (x : Exchange) (index : Nat) (values : List Half) (more : Bool) : Prop :=
  let total := x.buffer.length + values.length
  index ≠ x.nextIndex ∨ x.count < total ∨ (more = false ∧ total < x.count) ∨ (more = true ∧ total = x.count)
    ∨ (more = true ∧ index = 3)

section
variable (s : State) (x : Exchange) (index : Nat) (values : List Half)

/-- A bad fragment fails the attempt (R63). -/
theorem State.takeAnswer_bad (more : Bool) (h : x.BadFragment index values more) :
    s.takeAnswer x index values more = s.failAttempt x .protocol := by
  simp only [State.takeAnswer]
  iterate 5
    split
    · rfl
  next hindex hmany hfew hannounced hfifth =>
    rcases h with h | h | h | h | h
    · exact absurd h hindex
    · exact absurd h hmany
    · exact absurd h hfew
    · exact absurd h hannounced
    · exact absurd h hfifth

/-- A good fragment passes the checks: it is awaited on or ends the exchange by its M (R63). -/
theorem State.takeAnswer_good (more : Bool) (h : ¬ x.BadFragment index values more) :
    s.takeAnswer x index values more
      = if more then s.await { x with buffer := x.buffer ++ values, nextIndex := index + 1 }
        else s.endExchange x { status := .ok, values := x.buffer ++ values } := by
  simp only [Exchange.BadFragment, not_or] at h
  obtain ⟨hindex, hmany, hfew, hannounced, hfifth⟩ := h
  simp only [State.takeAnswer, if_neg hindex, if_neg hmany, if_neg hfew, if_neg hannounced, if_neg hfifth]

/-- The last good fragment brings the count of the READ (R63). -/
theorem Exchange.total_of_last_fragment (h : ¬ x.BadFragment index values false) :
    x.buffer.length + values.length = x.count := by
  simp only [Exchange.BadFragment, not_or, true_and] at h
  omega

end

/-- A REFUSE with reason BUSY fails the attempt (R66). -/
theorem State.takeRefuse_busy (s : State) (x : Exchange) :
    s.takeRefuse x (refuseReason 3#8) = s.failAttempt x .busy := rfl

/-- A REFUSE with a reason other than BUSY ends the exchange REFUSED (R66). -/
theorem State.takeRefuse_of_ne_busy (s : State) (x : Exchange) (reason : RefuseReason) (h : reason ≠ .busy) :
    s.takeRefuse x reason = s.endExchange x { status := .refused, detail := reason.code } := by
  cases reason with
  | busy => exact absurd rfl h
  | nopoint | denied | fault => rfl

/-- A reason byte that is not BUSY, with its code: an unassigned one is FAULT (R20). -/
theorem refuseReason_of_ne_busy {b : Byte} (h : b ≠ 3#8) : refuseReason b ≠ .busy
    ∧ (refuseReason b).code = if b = 1#8 then 1#4 else if b = 2#8 then 2#4 else 4#4 := by
  by_cases h1 : b = 1#8
  · subst h1
    exact ⟨by decide, rfl⟩
  by_cases h2 : b = 2#8
  · subst h2
    exact ⟨by decide, rfl⟩
  have hfault : refuseReason b = .fault := (if_neg h1).trans ((if_neg h2).trans (if_neg h))
  rw [hfault, if_neg h1, if_neg h2]
  exact ⟨by decide, rfl⟩

/-! ### A valid frame from the station (R57) -/

/-- The heard claim of a valid frame, which an orphaned exchange does not make (R57). -/
def State.heardBy (s : State) (x : Exchange) : State := if x.orphan then s else (x.slot.map s.heard).getD s

theorem State.takeValid_other_source (s : State) (x : Exchange) {source : Byte} (reply : Reply)
    (h : source ≠ x.address) : s.takeValid x source reply = s.failAttempt x .protocol := if_pos h

theorem State.takeValid_own_source (s : State) (x : Exchange) (reply : Reply) :
    s.takeValid x x.address reply = (s.heardBy x).takeReply x reply := by
  simp only [State.takeValid, State.heardBy, ne_eq, not_true_eq_false, if_false]
  cases x.orphan <;> cases x.slot <;> rfl

/-- A heard claim changes neither the line nor the parameters (R31). -/
theorem State.heard_line_loader (s : State) (k : Nat) :
    (s.heard k).line = s.line ∧ (s.heard k).loader = s.loader := by
  unfold State.heard
  split
  · exact ⟨rfl, rfl⟩
  · split <;> simp

theorem State.heardBy_line_loader (s : State) (x : Exchange) :
    (s.heardBy x).line = s.line ∧ (s.heardBy x).loader = s.loader := by
  unfold State.heardBy
  split
  · exact ⟨rfl, rfl⟩
  · cases x.slot with
    | none => exact ⟨rfl, rfl⟩
    | some k => exact s.heard_line_loader k

/-- The kinds of reply that an exchange allows (R57). -/
def Exchange.allows (x : Exchange) (reply : Reply) : Bool :=
  match x.kind, reply with
  | .broadcast, _ => false
  | _, .refuse _ => true
  | .ping, .pong _ _ => true
  | .read, .answer _ _ _ => true
  | .write, .accept => true
  | .cwriteAsWrite, .accept => true
  | .poll, .report _ _ _ => true
  | .poll, .nothing => true
  | _, _ => false

section
variable (s : State) (x : Exchange)

/-- A kind that the exchange does not allow fails the attempt (R57). -/
theorem State.takeReply_not_allowed (reply : Reply) (h : x.allows reply = false) :
    s.takeReply x reply = s.failAttempt x .protocol := by
  unfold Exchange.allows at h
  unfold State.takeReply
  generalize x.kind = kind at h ⊢
  cases kind with
  | ping => cases reply with
    | refuse | pong => cases h
    | answer | accept | report | nothing => rfl
  | read => cases reply with
    | refuse | answer => cases h
    | pong | accept | report | nothing => rfl
  | write | cwriteAsWrite => cases reply with
    | refuse | accept => cases h
    | pong | answer | report | nothing => rfl
  | poll => cases reply with
    | refuse | report | nothing => cases h
    | pong | answer | accept => rfl
  | broadcast => rfl

theorem State.takeReply_refuse (reason : RefuseReason) (hkind : x.kind ≠ .broadcast) :
    s.takeReply x (.refuse reason) = s.takeRefuse x reason := by
  unfold State.takeReply
  cases hx : x.kind with
  | broadcast => exact absurd hx hkind
  | ping | read | write | cwriteAsWrite | poll => rfl

theorem State.takeReply_answer (index : Nat) (values : List Half) (more : Bool) (hkind : x.kind = .read) :
    s.takeReply x (.answer index values more) = s.takeAnswer x index values more := by
  unfold State.takeReply
  rw [hkind]

theorem State.takeReply_pong (capable : Bool) (highest : Half) (hkind : x.kind = .ping) :
    s.takeReply x (.pong capable highest) = s.endExchange x { status := .ok, pong := some (capable, highest) } := by
  unfold State.takeReply
  rw [hkind]

theorem State.takeReply_accept (hkind : x.kind = .write ∨ x.kind = .cwriteAsWrite) :
    s.takeReply x .accept = s.endExchange x { status := .ok } := by
  unfold State.takeReply
  rcases hkind with hkind | hkind <;> rw [hkind]

theorem State.takeReply_nothing (hkind : x.kind = .poll) :
    s.takeReply x .nothing = s.endExchange x { status := .ok } := by
  unfold State.takeReply
  rw [hkind]

/-- A report is new when its T is not the K that the POLL carried (R67). -/
theorem State.takeReply_report (t more : Bool) (items : List Item) {ack : AckSent} (hkind : x.kind = .poll)
    (hack : x.ackSent = some ack) : s.takeReply x (.report t more items)
      = s.endExchange x { status := .ok, more := more, report := if t = ack.k then none else some (t, items) } := by
  have hbit : x.ackBit = ack.k := by simp only [Exchange.ackBit, hack]
  unfold State.takeReply
  rw [hkind, ← hbit]

end

/-! ### The end of a POLL at its entry (R40, R72, R130) -/

theorem State.updEntry_entry_same (s : State) {k : Nat} {e : Entry} (he : s.entry k = some e) (f : Entry → Entry) :
    (s.updEntry k f).entry k = some (f e) := by
  rw [s.updEntry_of_some he, s.setEntry_entry_of_some he, if_pos rfl]

/-- The routing of a report changes nothing of the entry but the gap marks (R122, R130). -/
theorem State.route_entry (s : State) {k : Nat} {e : Entry} (he : s.entry k = some e) (station : Byte)
    (items : List Item) : ∃ gaps, (s.route k station items).entry k = some { e with gaps := gaps } := by
  simp only [State.route, he]
  have hports : ∀ f, ((s.breakWatches (hitsReport station items) .report none).updPorts f).entry k = some e :=
    fun _ => he
  exact ⟨_, State.updEntry_entry_same _ (hports _) _⟩

/-- The POLL of the entry in slot k as the Engine holds it, the entry not freed. -/
structure Exchange.InternalPoll (x : Exchange) (k : Nat) : Prop where
  origin : x.origin = .internal
  kind : x.kind = .poll
  purpose : x.purpose = .poll
  slot : x.slot = some k
  orphan : x.orphan = false

section
variable {x : Exchange} {k : Nat} (h : x.InternalPoll k)
include h

theorem Exchange.InternalPoll.sentWrite : x.sentWrite = false := by simp [Exchange.sentWrite, h.kind]

/-- Of the entries the end of a POLL concerns the table and the Router (R70, R72). -/
theorem State.handEnd_poll_entry (s : State) (o : Final) (j : Nat) :
    (s.handEnd x o).entry j = ((s.recordIdle.outcomeClaim k x o).routerTakesEnd x o).entry j := by
  have hwatch : ∀ t : State, t.watchTakesEnd x o = t := by
    intro t
    simp only [State.watchTakesEnd, t.breaksTakeEnd_none x o (.inr (.inr (.inr h.kind))),
      t.ownWatchTakesEnd_none x o (.inr h.origin), ite_self]
  rw [s.handEnd_not_orphan x o h.orphan, State.tableTakesEnd_claim _ x o h.slot (.inr (.inl h.purpose)), hwatch,
    State.attachesTakeEnd_of_not_probe _ x (by simp [h.purpose]), State.portTakesEnd_entry]
  exact State.entry_congr (State.arbiterTakesEnd_table _ x o) j

/-- A new report gives the entry its T as ack bit (R40). -/
theorem Entry.exchangeOk_poll (e : Entry) (o : Final) {t : Bool} {items : List Item} (ho : o.report = some (t, items)) :
    e.exchangeOk x o = { e with ack := t } := by
  simp [Entry.exchangeOk, h.sentWrite, h.purpose, ho]

theorem State.handEnd_poll_new_report (s : State) {e : Entry} (he : s.entry k = some e)
    (hstate : e.state = .online ∨ e.state = .suspect) (o : Final) (ho : o.status = .ok) {t : Bool}
    {items : List Item} (hreport : o.report = some (t, items)) :
    ∃ gaps, (s.handEnd x o).entry k = some { e with ack := t, gaps := gaps } := by
  have hset : (s.recordIdle.setEntry k (some { e with ack := t })).entry k = some { e with ack := t } :=
    (s.recordIdle.setEntry_entry_of_some he _ k).trans (if_pos rfl)
  rw [State.handEnd_poll_entry h, s.recordIdle.outcomeClaim_ok x o he hstate ho, Entry.exchangeOk_poll h e o hreport]
  simp only [State.routerTakesEnd, h.slot, hreport]
  exact State.route_entry _ hset x.address items

/-- A duplicate and a NOTHING leave the entry as it is (R40, R67). -/
theorem State.handEnd_poll_no_report (s : State) (o : Final) (ho : o.status = .ok) (hreport : o.report = none) :
    (s.handEnd x o).entry k = s.entry k := by
  rw [State.handEnd_poll_entry h, State.routerTakesEnd_none _ x o hreport,
    s.recordIdle.outcomeClaim_ok_same k x o ho hreport h.sentWrite (by simp [h.purpose])]
  rfl

end

end Sys2Proof.Machine
end

section
/-! CLAIM. The replies of a station and the frame reports. -/

open Sys2Proof Sys2Proof.Machine

/-- Settles O44: a bad fragment and a BUSY fail the attempt, and a failed attempt waits for the next or is the last. -/
theorem answersAndRefusesDecideTheAttempt : Obligations.AnswersAndRefusesDecideTheAttempt := by
  refine ⟨?fragments, ?refusals, ?last⟩
  case fragments =>
    intro s x index values more hidle hlast
    refine ⟨fun hbad => ?_, fun hgood hmore => ?_, fun hgood hmore => ?_⟩
    · rw [s.takeAnswer_bad x index values more hbad]
      exact s.failAttempt_gap x .protocol hlast hidle
    · rw [s.takeAnswer_good x index values more hgood, if_pos hmore]
      rfl
    · subst hmore
      exact ⟨s.takeAnswer_good x index values false hgood, x.total_of_last_fragment index values hgood⟩
  case refusals =>
    refine fun s x b => ⟨?_, fun hb => ?_⟩
    · rintro rfl hidle hlast
      exact (s.takeRefuse_busy x).trans (s.failAttempt_gap x .busy hlast hidle)
    · obtain ⟨hbusy, hcode⟩ := refuseReason_of_ne_busy hb
      rw [s.takeRefuse_of_ne_busy x _ hbusy, hcode]
  case last =>
    intro s x index values more hlast
    refine ⟨fun hbad => ?_, (s.takeRefuse_busy x).trans (s.failAttempt_last x .busy hlast.ge)⟩
    rw [s.takeAnswer_bad x index values more hbad]
    exact s.failAttempt_last x .protocol hlast.ge

/-- Settles O40: in RECEIVING a report is awaited past, fails the attempt or is a reply, which the kinds of the exchange
decide; at the end of a POLL the table and the Router take it. -/
theorem frameReportsDecideTheAttempt : Obligations.FrameReportsDecideTheAttempt := by
  refine ⟨?reports, ?last, ?valid, ?poll⟩
  case reports =>
    intro s x report hx
    refine ⟨fun hphase => s.frameEnded_elsewhere report fun y hy => ?_, fun hphase => ?_⟩
    · cases hx.symm.trans hy
      exact hphase
    have hended := fun report => s.frameEnded_receiving x report hx hphase
    refine ⟨hended .ignored, fun hlast hidle source reply cause => ?_, fun hlast source reply cause => ?_⟩
    · have hfails := fun f => s.failAttempt_gap x f hlast hidle
      exact ⟨(hended _).trans (hfails _), (hended _).trans (hfails _), fun hsource =>
        ((hended (.valid source reply)).trans (s.takeValid_other_source x reply hsource)).trans (hfails _)⟩
    · have hends := fun f => s.failAttempt_last x f hlast.ge
      exact ⟨(hended _).trans (hends _), (hended _).trans (hends _), fun hsource =>
        ((hended (.valid source reply)).trans (s.takeValid_other_source x reply hsource)).trans (hends _)⟩
  case last =>
    intro s x f hlast
    rw [s.failAttempt_last x f hlast.ge]
    cases f <;> rfl
  case valid =>
    intro s x reply hx hphase
    have hreply : s.frameEnded (.valid x.address reply) = (s.heardBy x).takeReply x reply :=
      (s.frameEnded_receiving x _ hx hphase).trans (s.takeValid_own_source x reply)
    obtain ⟨hline, hloader⟩ := s.heardBy_line_loader x
    rw [hreply]
    refine ⟨fun hnot hlast hidle => ?_, fun hnot hlast => ?_, ?_, ?_, ?_, ?_, ?_, ?_⟩
    · rw [(s.heardBy x).takeReply_not_allowed x reply hnot]
      exact (s.heardBy x).failAttempt_gap x .protocol (by rw [hloader]; exact hlast) (by rw [hline]; exact hidle)
    · rw [(s.heardBy x).takeReply_not_allowed x reply hnot]
      exact (s.heardBy x).failAttempt_last x .protocol (by rw [hloader]; exact hlast.ge)
    · rintro reason hkind rfl
      exact (s.heardBy x).takeReply_refuse x reason hkind
    · rintro index values more hkind rfl
      exact (s.heardBy x).takeReply_answer x index values more hkind
    · rintro capable highest hkind rfl
      exact (s.heardBy x).takeReply_pong x capable highest hkind
    · rintro hkind rfl
      exact (s.heardBy x).takeReply_accept x hkind
    · rintro hkind rfl
      exact (s.heardBy x).takeReply_nothing x hkind
    · rintro t more items ack hkind rfl hack
      rw [(s.heardBy x).takeReply_report x t more items hkind hack]
      exact ⟨fun hnew => by rw [if_neg hnew]; rfl, fun hold => by rw [if_pos hold]; rfl⟩
  case poll =>
    intro s x k e t more items hkind hpurpose horigin hslot horphan he hstate
    have hpoll : x.InternalPoll k := ⟨horigin, hkind, hpurpose, hslot, horphan⟩
    exact ⟨State.handEnd_poll_new_report hpoll s he hstate _ rfl rfl,
      (State.handEnd_poll_no_report hpoll s _ rfl rfl).trans he⟩

end

section
/-! SUPPORT. The service list and the probe or reprobe in flight, taken together (R81): what stands in service, and
what each change of the table, the list and the record does to it. -/

namespace Sys2Proof.Machine

open Sys2Proof

/-! ### What stands in service -/

/-- The item of the service list that an exchange serves: that of a probe or reprobe whose entry has not been freed. -/
def Exchange.serves (x : Exchange) : Option ServiceItem :=
  match x.orphan, x.slot, x.purpose with
  | false, some k, .probe => some ⟨k, x.address, .probe⟩
  | false, some k, .reprobe => some ⟨k, x.address, .reprobe⟩
  | _, _, _ => none

/-- The items in service: the one in flight and those on the list. -/
def State.inService (s : State) : List ServiceItem :=
  (s.exchange.bind Exchange.serves).toList ++ s.arbiter.serviceList

/-- The slots in service. -/
def State.served (s : State) : List Nat := s.inService.map (·.slot)

/-- An OFFLINE entry whose countdown has run out (R35). -/
def Entry.Overdue (e : Entry) : Prop := e.state = .offline ∧ e.countdown = 0

/-- The entry is one that the item is for (R81). -/
def ServiceItem.Suits (i : ServiceItem) (e : Entry) : Prop :=
  e.address = i.address ∧ (i.purpose = .probe → e.state = .probing) ∧ (i.purpose = .reprobe → e.Overdue)

/-- The item's slot holds an entry that it is for. -/
def ServiceItem.Stands (i : ServiceItem) (s : State) : Prop := ∃ e, s.entry i.slot = some e ∧ i.Suits e

/-- The form of the service (R81). `due` holds slots whose reprobe is still to join the list, in the middle of a poll
tick: such a slot, while its entry is overdue, is not yet in service. -/
structure Serviced (due : Nat → Prop) (s : State) : Prop where
  slots : s.table.length = Config.stationSlots
  interval : 1 ≤ s.loader.params.reprobeInterval
  once : s.served.Nodup
  stands : ∀ i ∈ s.inService, i.Stands s
  waits : ∀ k e, due k → s.entry k = some e → e.Overdue → k ∉ s.served

/-- No reprobe is still to join the list. -/
def noneDue : Nat → Prop := fun _ => False

/-- The purpose of the exchange that an item calls for (R82). -/
def ServicePurpose.exchange : ServicePurpose → Purpose
  | .probe => .probe
  | .reprobe => .reprobe

theorem Exchange.serves_eq_some (x : Exchange) (i : ServiceItem) : x.serves = some i ↔
    x.orphan = false ∧ x.slot = some i.slot ∧ x.address = i.address ∧ x.purpose = i.purpose.exchange := by
  obtain ⟨k, a, purpose⟩ := i
  unfold Exchange.serves
  constructor
  · intro h
    split at h
    · cases h; simp_all [ServicePurpose.exchange]
    · cases h; simp_all [ServicePurpose.exchange]
    · cases h
  · rintro ⟨horphan, hslot, haddress, hpurpose⟩
    cases purpose <;> simp_all [ServicePurpose.exchange]

/-- What is in service depends on the record and the list alone. -/
theorem State.inService_congr {s t : State} (hx : t.exchange = s.exchange)
    (hlist : t.arbiter.serviceList = s.arbiter.serviceList) : t.inService = s.inService := by
  rw [State.inService, State.inService, hx, hlist]

theorem State.served_congr {s t : State} (hx : t.exchange = s.exchange)
    (hlist : t.arbiter.serviceList = s.arbiter.serviceList) : t.served = s.served := by
  rw [State.served, State.served, State.inService_congr hx hlist]

theorem State.mem_served {s : State} {i : ServiceItem} (h : i ∈ s.inService) : i.slot ∈ s.served :=
  List.mem_map_of_mem h

theorem State.mem_inService {s : State} {i : ServiceItem} : i ∈ s.inService ↔
    (∃ x, s.exchange = some x ∧ x.serves = some i) ∨ i ∈ s.arbiter.serviceList := by
  simp [State.inService, Option.bind_eq_some_iff]

theorem State.serviceList_sublist (s : State) : s.arbiter.serviceList.Sublist s.inService :=
  List.sublist_append_right _ _

/-- A slot is in service once: that of the exchange in flight is not on the list. -/
theorem State.served_nodup_iff (s : State) : s.served.Nodup ↔
    (s.arbiter.serviceList.map (·.slot)).Nodup
      ∧ ∀ x i, s.exchange = some x → x.serves = some i → ∀ j ∈ s.arbiter.serviceList, j.slot ≠ i.slot := by
  rw [State.served, State.inService]
  cases hx : s.exchange.bind Exchange.serves with
  | none =>
    refine ⟨fun h => ⟨h, fun x i hxs hi => ?_⟩, fun h => h.1⟩
    rw [hxs] at hx
    cases hx.symm.trans hi
  | some i =>
    obtain ⟨x, hxs, hi⟩ := Option.bind_eq_some_iff.mp hx
    simp only [Option.toList_some, List.singleton_append, List.map_cons, List.nodup_cons, List.mem_map, not_exists,
      not_and]
    refine ⟨fun ⟨hnot, hlist⟩ => ⟨hlist, fun y j hy hj => ?_⟩, fun ⟨hlist, hnot⟩ => ⟨hnot x i hxs hi, hlist⟩⟩
    cases hxs.symm.trans hy
    cases hi.symm.trans hj
    exact hnot

/-- The invariant says that the service has its form, outside a poll tick. -/
theorem serviceInv_iff (s : State) : ServiceInv s ↔ Serviced noneDue s := by
  constructor
  · intro h
    refine ⟨h.slots, h.interval, s.served_nodup_iff.mpr ⟨h.once, fun x i hx hi => ?_⟩, fun i hi => ?_,
      fun _ _ hdue => hdue.elim⟩
    · obtain ⟨horphan, hslot, -, hpurpose⟩ := (x.serves_eq_some i).mp hi
      cases hp : i.purpose with
      | probe => exact (h.probing x i.slot hx hslot horphan (by rw [hpurpose, hp]; rfl)).2
      | reprobe => exact (h.reprobing x i.slot hx hslot horphan (by rw [hpurpose, hp]; rfl)).2
    · rcases State.mem_inService.mp hi with ⟨x, hx, hi⟩ | hi
      · obtain ⟨horphan, hslot, haddress, hpurpose⟩ := (x.serves_eq_some i).mp hi
        cases hp : i.purpose with
        | probe =>
          obtain ⟨⟨e, he, ha, hstate⟩, -⟩ := h.probing x i.slot hx hslot horphan (by rw [hpurpose, hp]; rfl)
          exact ⟨e, he, ha.trans haddress, fun _ => hstate, by simp [hp]⟩
        | reprobe =>
          obtain ⟨⟨e, he, ha, hstate⟩, -⟩ := h.reprobing x i.slot hx hslot horphan (by rw [hpurpose, hp]; rfl)
          exact ⟨e, he, ha.trans haddress, by simp [hp], fun _ => hstate⟩
      · cases hp : i.purpose with
        | probe =>
          obtain ⟨e, he, ha, hstate⟩ := h.probes i hi hp
          exact ⟨e, he, ha, fun _ => hstate, by simp [hp]⟩
        | reprobe =>
          obtain ⟨e, he, ha, hstate⟩ := h.reprobes i hi hp
          exact ⟨e, he, ha, by simp [hp], fun _ => hstate⟩
  · intro h
    obtain ⟨honce, hflight⟩ := s.served_nodup_iff.mp h.once
    have hlist : ∀ i ∈ s.arbiter.serviceList, i.Stands s := fun i hi => h.stands i (State.mem_inService.mpr (.inr hi))
    have hserves : ∀ x i, s.exchange = some x → x.serves = some i → i.Stands s :=
      fun x i hx hi => h.stands i (State.mem_inService.mpr (.inl ⟨x, hx, hi⟩))
    refine ⟨h.slots, h.interval, honce, fun i hi hp => ?_, fun i hi hp => ?_, fun x k hx hslot horphan hp => ?_,
      fun x k hx hslot horphan hp => ?_⟩
    · obtain ⟨e, he, ha, hstate, -⟩ := hlist i hi
      exact ⟨e, he, ha, hstate hp⟩
    · obtain ⟨e, he, ha, -, hstate⟩ := hlist i hi
      exact ⟨e, he, ha, hstate hp⟩
    · have hi : x.serves = some ⟨k, x.address, .probe⟩ := (x.serves_eq_some _).mpr ⟨horphan, hslot, rfl, hp⟩
      obtain ⟨e, he, ha, hstate, -⟩ := hserves x _ hx hi
      exact ⟨⟨e, he, ha, hstate rfl⟩, hflight x _ hx hi⟩
    · have hi : x.serves = some ⟨k, x.address, .reprobe⟩ := (x.serves_eq_some _).mpr ⟨horphan, hslot, rfl, hp⟩
      obtain ⟨e, he, ha, -, hstate⟩ := hserves x _ hx hi
      exact ⟨⟨e, he, ha, hstate rfl⟩, hflight x _ hx hi⟩

/-! ### Changes that put nothing into service -/

section

variable {due : Nat → Prop} {s t : State}

/-- Nothing joins the service, and what stays in it keeps an entry that suits it. -/
theorem Serviced.of_entries (h : Serviced due s) (hlength : t.table.length = s.table.length)
    (hloader : t.loader = s.loader) (hservice : t.inService.Sublist s.inService)
    (hstands : ∀ i ∈ t.inService, i.Stands s → i.Stands t)
    (hoverdue : ∀ k f, due k → k ∈ t.served → t.entry k = some f → f.Overdue → ∃ e, s.entry k = some e ∧ e.Overdue) :
    Serviced due t := by
  have hserved : t.served.Sublist s.served := hservice.map _
  refine ⟨hlength.trans h.slots, by rw [hloader]; exact h.interval, hserved.nodup h.once,
    fun i hi => hstands i hi (h.stands i (hservice.subset hi)), fun k f hk hf hover hmem => ?_⟩
  obtain ⟨e, he, hover'⟩ := hoverdue k f hk hmem hf hover
  exact h.waits k e hk he hover' (hserved.subset hmem)

/-- The table stays, and nothing joins the service. -/
theorem Serviced.of_table (h : Serviced due s) (htable : t.table = s.table) (hloader : t.loader = s.loader)
    (hservice : t.inService.Sublist s.inService) : Serviced due t := by
  have hentry := State.entry_congr htable
  refine h.of_entries (by rw [htable]) hloader hservice (fun i _ ⟨e, he, hsuits⟩ => ⟨e, by rw [hentry, he], hsuits⟩)
    fun k f _ _ hf hover => ⟨f, by rw [← hentry, hf], hover⟩

/-- A change outside the table, the Loader, the record and the list. -/
theorem Serviced.of_frame (h : Serviced due s) (htable : t.table = s.table := by rfl)
    (hloader : t.loader = s.loader := by rfl) (hx : t.exchange = s.exchange := by rfl)
    (hlist : t.arbiter.serviceList = s.arbiter.serviceList := by rfl) : Serviced due t :=
  h.of_table htable hloader (by rw [State.inService_congr hx hlist])

/-- Fewer slots wait for their reprobe, or none of those that wait is in service. -/
theorem Serviced.with_due {due' : Nat → Prop} (h : Serviced due s) (hdue : ∀ k, due' k → due k ∨ k ∉ s.served) :
    Serviced due' s :=
  ⟨h.slots, h.interval, h.once, h.stands, fun k e hk he hover =>
    (hdue k hk).elim (fun hk => h.waits k e hk he hover) id⟩

/-- A slot in service holds an entry in PROBING, or an overdue one. -/
theorem Serviced.entry_of_served (h : Serviced due s) {k : Nat} (hk : k ∈ s.served) :
    ∃ e, s.entry k = some e ∧ (e.state = .probing ∨ e.Overdue) := by
  obtain ⟨i, hi, rfl⟩ := List.mem_map.mp hk
  obtain ⟨e, he, -, hprobe, hreprobe⟩ := h.stands i hi
  cases hp : i.purpose with
  | probe => exact ⟨e, he, .inl (hprobe hp)⟩
  | reprobe => exact ⟨e, he, .inr (hreprobe hp)⟩

/-- A slot whose entry is neither in PROBING nor overdue is not in service. -/
theorem Serviced.not_served (h : Serviced due s) {k : Nat} {e : Entry} (he : s.entry k = some e)
    (hprobing : e.state ≠ .probing) (hover : ¬ e.Overdue) : k ∉ s.served := by
  intro hk
  obtain ⟨f, hf, hstate⟩ := h.entry_of_served hk
  cases he.symm.trans hf
  exact hstate.elim hprobing hover

theorem Serviced.not_served_of_free (h : Serviced due s) {k : Nat} (hk : s.entry k = none) : k ∉ s.served := by
  intro hmem
  obtain ⟨e, he, -⟩ := h.entry_of_served hmem
  cases hk.symm.trans he

/-- The writing of a slot that is not in service. -/
theorem Serviced.setEntry_of_not_served (h : Serviced due s) {k : Nat} (hk : k ∉ s.served) (o : Option Entry) :
    Serviced due (s.setEntry k o) := by
  have hentry : ∀ j ∈ s.served, (s.setEntry k o).entry j = s.entry j := by
    intro j hj
    have hne : k ≠ j := fun heq => hk (heq ▸ hj)
    simp [State.entry, State.setEntry, List.getD_eq_getElem?_getD, List.getElem?_set_ne hne]
  refine h.of_entries (s.setEntry_table_length k o) rfl (List.Sublist.refl _)
    (fun i hi ⟨e, he, hsuits⟩ => ⟨e, (hentry _ (State.mem_served hi)).trans he, hsuits⟩) fun j f _ hj hf hover => ?_
  exact ⟨f, (hentry j hj).symm.trans hf, hover⟩

/-- The entry's address, state and countdown are the same: all that the service speaks of. -/
structure Entry.SameService (e f : Entry) : Prop where
  address : f.address = e.address
  state : f.state = e.state
  countdown : f.countdown = e.countdown

theorem Entry.SameService.overdue {e f : Entry} (h : e.SameService f) : f.Overdue ↔ e.Overdue := by
  rw [Entry.Overdue, Entry.Overdue, h.state, h.countdown]

theorem Entry.SameService.suits {e f : Entry} (h : e.SameService f) {i : ServiceItem} (hi : i.Suits e) : i.Suits f := by
  obtain ⟨haddress, hprobe, hreprobe⟩ := hi
  exact ⟨h.address.trans haddress, fun hp => h.state.trans (hprobe hp), fun hp => h.overdue.mpr (hreprobe hp)⟩

/-- An entry written over one that the service does not tell from it. -/
theorem Serviced.setEntry (h : Serviced due s) {k : Nat} {e f : Entry} (he : s.entry k = some e)
    (hsame : e.SameService f) : Serviced due (s.setEntry k (some f)) := by
  have hentry := s.setEntry_entry_of_some he (some f)
  refine h.of_entries (s.setEntry_table_length k _) rfl (List.Sublist.refl _) (fun i _ ⟨g, hg, hsuits⟩ => ?_)
    fun j g _ _ hg hover => ?_
  · by_cases hi : i.slot = k
    · rw [hi] at hg
      cases he.symm.trans hg
      exact ⟨f, by rw [hentry, if_pos hi], hsame.suits hsuits⟩
    · exact ⟨g, by rw [hentry, if_neg hi, hg], hsuits⟩
  · rw [hentry] at hg
    split at hg
    next hj =>
      cases hg
      exact ⟨e, hj ▸ he, hsame.overdue.mp hover⟩
    · exact ⟨g, hg, hover⟩

/-- A change of every entry that leaves each item one that suits it. -/
theorem Serviced.map_entries (h : Serviced due s) {f : Entry → Entry} (htable : t.table = s.table.map (Option.map f))
    (hloader : t.loader = s.loader) (hservice : t.inService.Sublist s.inService)
    (hsuits : ∀ i ∈ t.inService, ∀ e, i.Suits e → i.Suits (f e)) (hoverdue : ∀ k e, due k → (f e).Overdue → e.Overdue) :
    Serviced due t := by
  have hentry := State.entry_of_table_map htable
  refine h.of_entries (by rw [htable, List.length_map]) hloader hservice
    (fun i hi ⟨e, he, hsuit⟩ => ⟨f e, by rw [hentry, he]; rfl, hsuits i hi e hsuit⟩) fun k g hk _ hg hover => ?_
  rw [hentry] at hg
  obtain ⟨e, he, rfl⟩ := Option.map_eq_some_iff.mp hg
  exact ⟨e, he, hoverdue k e hk hover⟩

theorem Serviced.updEntry_same (h : Serviced due s) (k : Nat) {f : Entry → Entry}
    (hf : ∀ e : Entry, e.SameService (f e)) : Serviced due (s.updEntry k f) := by
  cases he : s.entry k with
  | none => simpa [State.updEntry, he] using h
  | some e =>
    rw [s.updEntry_of_some he]
    exact h.setEntry he (hf e)

/-! ### Items that join the service, and items that leave it -/

/-- An item for a slot not in service joins the list (R81). -/
theorem Serviced.appendService (h : Serviced due s) {i : ServiceItem} (hnew : i.slot ∉ s.served) (hstands : i.Stands s)
    (hdue : i.purpose = .probe ∨ ¬ due i.slot) : Serviced due (s.appendService i) := by
  have hservice : (s.appendService i).inService = s.inService ++ [i] := by
    simp [State.inService, State.appendService, List.append_assoc]
  have hserved : (s.appendService i).served = s.served ++ [i.slot] := by
    rw [State.served, hservice, List.map_append]
    rfl
  refine ⟨h.slots, h.interval, ?_, fun j hj => ?_, fun k e hk he hover hmem => ?_⟩
  · rw [hserved]
    exact List.nodup_append_comm.mp (List.nodup_cons.mpr ⟨hnew, h.once⟩)
  · rw [hservice, List.mem_append, List.mem_singleton] at hj
    rcases hj with hj | rfl
    · exact h.stands j hj
    · exact hstands
  · rw [hserved, List.mem_append, List.mem_singleton] at hmem
    rcases hmem with hmem | rfl
    · exact h.waits k e hk he hover hmem
    · obtain ⟨f, hf, -, hprobing, -⟩ := hstands
      cases hf.symm.trans he
      rcases hdue with hp | hp
      · cases (hprobing hp).symm.trans hover.1
      · exact hp hk

/-- The lowest-numbered FREE slot is FREE (R29). -/
theorem State.entry_of_freeSlot (s : State) {k : Nat} (h : s.freeSlot = some k) : s.entry k = none := by
  rw [State.freeSlot, List.findIdx?_eq_some_iff_getElem] at h
  obtain ⟨hk, hfree, -⟩ := h
  rw [State.entry, List.getD_eq_getElem _ _ hk]
  simpa using hfree

/-- Creation in a FREE slot puts the entry's probe into service (R28, R81). -/
theorem Serviced.createEntry (h : Serviced due s) {k : Nat} (hfree : s.freeSlot = some k) (a : Byte)
    (ports : PortSet) : Serviced due (s.createEntry k a ports) := by
  have hk : k ∉ s.served := h.not_served_of_free (s.entry_of_freeSlot hfree)
  refine (h.setEntry_of_not_served hk _).appendService (i := ⟨k, a, .probe⟩) hk ⟨newEntry a ports, ?_, ?_⟩ (.inl rfl)
  · rw [s.setEntry_entry k k _ (s.lt_of_freeSlot hfree), if_pos rfl]
  · exact ⟨rfl, fun _ => rfl, fun hp => by cases hp⟩

/-- Freeing takes the slot out of service: from the list, and by the orphan flag from the record (R44, R45). -/
theorem State.freeEntry_inService (s : State) (k : Nat) :
    (s.freeEntry k).inService = s.inService.filter fun i => i.slot != k := by
  rw [State.inService, State.inService, List.filter_append]
  refine congrArg (· ++ _) ?_
  show ((s.exchange.map fun x => if x.slot = some k then { x with orphan := true } else x).bind
    Exchange.serves).toList = _
  cases s.exchange with
  | none => rfl
  | some x =>
    simp only [Option.map_some, Option.bind_some]
    by_cases hslot : x.slot = some k
    · have horphan : ({ x with orphan := true } : Exchange).serves = none := rfl
      rw [if_pos hslot, horphan]
      cases hi : x.serves with
      | none => rfl
      | some i =>
        obtain ⟨-, hslot', -⟩ := (x.serves_eq_some i).mp hi
        cases hslot.symm.trans hslot'
        simp
    · rw [if_neg hslot]
      cases hi : x.serves with
      | none => rfl
      | some i =>
        obtain ⟨-, hslot', -⟩ := (x.serves_eq_some i).mp hi
        have hne : i.slot ≠ k := fun heq => hslot (heq ▸ hslot')
        simp [hne]

theorem Serviced.freeEntry (h : Serviced due s) (k : Nat) : Serviced due (s.freeEntry k) := by
  have hservice := s.freeEntry_inService k
  have hne : ∀ i ∈ (s.freeEntry k).inService, i.slot ≠ k := by
    intro i hi
    rw [hservice] at hi
    simpa using (List.mem_filter.mp hi).2
  have hentry : ∀ j, j ≠ k → (s.freeEntry k).entry j = s.entry j := by
    intro j hj
    simp [State.entry, State.freeEntry, List.getD_eq_getElem?_getD, List.getElem?_set_ne (Ne.symm hj)]
  refine h.of_entries (by simp [State.freeEntry]) rfl (hservice ▸ List.filter_sublist)
    (fun i hi ⟨e, he, hsuits⟩ => ⟨e, (hentry _ (hne i hi)).trans he, hsuits⟩) fun j f _ hj hf hover => ?_
  obtain ⟨i, hi, rfl⟩ := List.mem_map.mp hj
  exact ⟨f, (hentry _ (hne i hi)).symm.trans hf, hover⟩

/-! ### The table (R29-R43) -/

theorem Serviced.attachClaim (h : Serviced due s) (p : Port) (a : Byte) : Serviced due (s.attachClaim p a).1 := by
  unfold State.attachClaim
  cases s.slotOf a with
  | none =>
    cases hfree : s.freeSlot with
    | none => exact h
    | some k => exact h.createEntry hfree a _
  | some k =>
    simp only
    split
    · exact h
    next e he =>
      split
      · exact h
      · exact h.setEntry he ⟨rfl, rfl, rfl⟩

theorem Serviced.preAttach (h : Serviced due s) (kept : Byte × PortSet) : Serviced due (s.preAttach kept) := by
  unfold State.preAttach
  split
  next hfree => exact h.createEntry hfree _ _
  · exact h

theorem Serviced.leaveEntry (h : Serviced due s) (p : Port) (k : Nat) : Serviced due (s.leaveEntry p k) := by
  unfold State.leaveEntry
  cases he : s.entry k with
  | none => exact h
  | some e =>
    have hleft : Serviced due ((s.setEntry k (some (e.without p))).emptyWatchesOn p e.address) :=
      (h.setEntry (f := e.without p) he ⟨rfl, rfl, rfl⟩).of_frame
    simp only
    split
    · split
      · exact hleft.freeEntry k
      · exact hleft
    · exact h

theorem Serviced.leaveAll (h : Serviced due s) (p : Port) : Serviced due (s.leaveAll p) :=
  List.foldlRecOn (motive := Serviced due) _ _ h fun _ ht k _ => ht.leaveEntry p k

theorem Serviced.clearChanged (h : Serviced due s) (p : Port) : Serviced due (s.clearChanged p) :=
  h.map_entries rfl rfl (List.Sublist.refl _) (fun _ _ _ hsuits => hsuits) fun _ _ _ hover => hover

theorem State.updEntry_served (s : State) (k : Nat) (f : Entry → Entry) : (s.updEntry k f).served = s.served :=
  State.served_congr (by simp) (by simp)

theorem Serviced.changeState (h : Serviced due s) {k : Nat} (hk : k ∉ s.served) (state : StationState) :
    Serviced due (s.changeState k state) := by
  unfold State.changeState
  split
  · exact h
  · split
    · exact h
    · exact (h.setEntry_of_not_served hk _).of_frame

theorem Serviced.updEntry (h : Serviced due s) {k : Nat} (hk : k ∉ s.served) (f : Entry → Entry) :
    Serviced due (s.updEntry k f) := by
  unfold State.updEntry
  split
  · exact h
  · exact h.setEntry_of_not_served hk _

/-- A heard claim acts on an entry in ONLINE or SUSPECT, which is not in service (R31). -/
theorem Serviced.heard (h : Serviced due s) (k : Nat) : Serviced due (s.heard k) := by
  cases he : s.entry k with
  | none => simpa [State.heard, he] using h
  | some e =>
    have hzero : Serviced due (s.setEntry k (some { e with failures := 0 })) := h.setEntry he ⟨rfl, rfl, rfl⟩
    cases hstate : e.state with
    | probing => rw [s.heard_elsewhere he (.inl hstate)]; exact h
    | offline => rw [s.heard_elsewhere he (.inr hstate)]; exact h
    | online => rw [s.heard_online he hstate]; exact hzero
    | suspect =>
      rw [s.heard_suspect he hstate]
      refine hzero.changeState ?_ .online
      exact h.not_served he (by simp [hstate]) (by simp [Entry.Overdue, hstate])

/-- The outcome of a claim acts on an entry in ONLINE or SUSPECT, which is not in service (R32). -/
theorem Serviced.outcomeClaim (h : Serviced due s) (k : Nat) (x : Exchange) (o : Final) :
    Serviced due (s.outcomeClaim k x o) := by
  unfold State.outcomeClaim
  cases he : s.entry k with
  | none => exact h
  | some e =>
    simp only
    split
    next hstate =>
      have hk : k ∉ s.served :=
        h.not_served he (by rcases hstate with hs | hs <;> simp [hs])
          (by rcases hstate with hs | hs <;> simp [Entry.Overdue, hs])
      have hfail : Serviced due (s.countFailure k e x.sentWrite) := by
        simp only [State.countFailure]
        split
        · exact ((h.setEntry_of_not_served hk _).changeState hk .offline).of_frame
        · exact (h.setEntry_of_not_served hk _).changeState hk .suspect
      split
      · exact h.setEntry he ⟨rfl, rfl, rfl⟩
      · exact hfail
      · exact hfail
      · exact h
    · exact h

end

end Sys2Proof.Machine
end

section
/-! SUPPORT. What a change takes up at once (R147, R79): the Arbiter's choice and the local requests. It touches neither
the run, the Loader nor the time base, and it keeps the form of the service (R81). -/

namespace Sys2Proof.Machine

open Sys2Proof

/-- From s to t the part has only taken up what stood ready: the run, the Loader and the poll timer are the same, and a
service that had its form has it. -/
structure TakenUp (s t : State) : Prop where
  run : t.run = s.run
  loader : t.loader = s.loader
  pollTimer : t.arbiter.pollTimer = s.arbiter.pollTimer
  service : ∀ {due : Nat → Prop}, Serviced due s → Serviced due t

theorem TakenUp.refl (s : State) : TakenUp s s := ⟨rfl, rfl, rfl, id⟩

theorem TakenUp.trans {s t u : State} (h : TakenUp s t) (h' : TakenUp t u) : TakenUp s u :=
  ⟨h'.run.trans h.run, h'.loader.trans h.loader, h'.pollTimer.trans h.pollTimer, fun hs => h'.service (h.service hs)⟩

/-- A change that leaves the table as it is and puts nothing into service. -/
theorem TakenUp.of_sublist {s t : State} (hservice : t.inService.Sublist s.inService) (hrun : t.run = s.run := by rfl)
    (hloader : t.loader = s.loader := by rfl) (htimer : t.arbiter.pollTimer = s.arbiter.pollTimer := by rfl)
    (htable : t.table = s.table := by rfl) : TakenUp s t :=
  ⟨hrun, hloader, htimer, fun h => h.of_table htable hloader hservice⟩

/-- A change of the ports, the watches, the Router and the Arbiter's own counts. -/
theorem TakenUp.of_frame {s t : State} (hrun : t.run = s.run := by rfl) (hloader : t.loader = s.loader := by rfl)
    (htimer : t.arbiter.pollTimer = s.arbiter.pollTimer := by rfl) (htable : t.table = s.table := by rfl)
    (hx : t.exchange = s.exchange := by rfl)
    (hlist : t.arbiter.serviceList = s.arbiter.serviceList := by rfl) : TakenUp s t :=
  .of_sublist (by rw [State.inService_congr hx hlist]) hrun hloader htimer htable

/-! ### The Arbiter's choice (R79-R91) -/

/-- An exchange that serves no item of the list starts. -/
theorem TakenUp.startExchange (s : State) (x : Exchange) (hx : x.serves = none) : TakenUp s (s.startExchange x) := by
  refine .of_sublist ?_
  have hservice : (s.startExchange x).inService = s.arbiter.serviceList := by
    show x.serves.toList ++ s.arbiter.serviceList = _
    rw [hx]
    rfl
  rw [hservice]
  exact s.serviceList_sublist

theorem Arbiter.advance_keeps (a : Arbiter) :
    a.advance.serviceList = a.serviceList ∧ a.advance.pollTimer = a.pollTimer := by
  unfold Arbiter.advance
  split <;> exact ⟨rfl, rfl⟩

theorem TakenUp.walkCursor (fuel : Nat) (s : State) : TakenUp s (State.walkCursor fuel s) := by
  induction fuel generalizing s with
  | zero => exact .refl s
  | succ fuel ih =>
    obtain ⟨hlist, htimer⟩ := s.arbiter.advance_keeps
    have hadvance : TakenUp s (State.walkCursor fuel { s with arbiter := s.arbiter.advance }) :=
      (TakenUp.of_frame (htimer := htimer) (hlist := hlist)).trans (ih _)
    unfold State.walkCursor
    split
    · split
      next e _ =>
        split
        · have hcount : TakenUp s { s with arbiter := { s.arbiter with
              burstCount := s.arbiter.burstCount + 1, burstAddress := some e.address } } := .of_frame
          exact hcount.trans (.startExchange _ _ rfl)
        · exact hadvance
      · exact hadvance
    · exact .refl s

/-- The PING that an item of the service list calls for starts (R82). -/
theorem State.startService_of_entry (s : State) {item : ServiceItem} {e : Entry} (he : s.entry item.slot = some e)
    (rest : List ServiceItem) : s.startService item rest
      = ({ s with arbiter := { s.arbiter with serviceList := rest } } : State).startExchange
        (pingExchange item.purpose.exchange item.slot e) := by
  have he' : ({ s with arbiter := { s.arbiter with serviceList := rest } } : State).entry item.slot = some e := he
  cases hp : item.purpose <;> simp [State.startService, he', hp, ServicePurpose.exchange]

theorem pingExchange_serves {item : ServiceItem} {e : Entry} (ha : e.address = item.address) :
    (pingExchange item.purpose.exchange item.slot e).serves = some item :=
  (Exchange.serves_eq_some _ _).mpr ⟨rfl, rfl, ha, rfl⟩

/-- The head of the service list goes into flight: it stays in service (R82). -/
theorem TakenUp.startService (s : State) (item : ServiceItem) (rest : List ServiceItem)
    (hlist : s.arbiter.serviceList = item :: rest) : TakenUp s (s.startService item rest) := by
  have hwhole : (item :: rest).Sublist s.inService := hlist ▸ s.serviceList_sublist
  have hrest : rest.Sublist s.arbiter.serviceList := hlist ▸ List.sublist_cons_self item rest
  cases he : s.entry item.slot with
  | none =>
    have hdropped : s.startService item rest = { s with arbiter := { s.arbiter with serviceList := rest } } := by
      have he' : ({ s with arbiter := { s.arbiter with serviceList := rest } } : State).entry item.slot = none := he
      simp [State.startService, he']
    rw [hdropped]
    exact .of_sublist ((List.append_sublist_append_left _).mpr hrest)
  | some e =>
    rw [s.startService_of_entry he]
    refine ⟨rfl, rfl, rfl, fun h => h.of_table rfl rfl ?_⟩
    obtain ⟨f, hf, haddress, -⟩ := h.stands item (hwhole.subset List.mem_cons_self)
    cases he.symm.trans hf
    show ((pingExchange item.purpose.exchange item.slot e).serves.toList ++ rest).Sublist s.inService
    rw [pingExchange_serves haddress]
    exact hwhole

theorem TakenUp.startRequest (s : State) (p : Port) (r : Request) (x : Exchange) (hx : x.serves = none) :
    TakenUp s (s.startRequest p r x) := by
  simp only [State.startRequest]
  refine .trans ?_ (.startExchange _ x hx)
  split <;> exact .of_frame

theorem TakenUp.startHead (s : State) (p : Port) (r : Request) : TakenUp s (s.startHead p r) := by
  unfold State.startHead
  split
  · exact .startRequest s p r _ rfl
  · split
    · exact .refl s
    · split
      · exact .refl s
      next k _ e _ =>
        split
        · exact .startRequest s p r _ rfl
        · split
          · exact .startRequest s p r _ rfl
          · have hpaired : TakenUp s { s.updPort p ({ · with headMark := .paired }) with
                arbiter := { s.arbiter with pairing := some p } } := .of_frame
            exact hpaired.trans (.startExchange _ _ rfl)

theorem TakenUp.checkHead (s : State) (p : Port) (r : Request) : TakenUp s (s.checkHead p r).1 := by
  unfold State.checkHead
  split
  · exact .refl s
  · split
    · simp only [State.watchCheck]
      split
      · exact .of_frame
      · split
        · exact .refl s
        · exact .of_frame
    · exact .refl s

theorem TakenUp.choosePort (s : State) : TakenUp s s.choosePort.1 := by
  unfold State.choosePort
  split
  · exact .refl s
  next p u _ =>
    have hturn : TakenUp s { s with arbiter := { s.arbiter with pointer := p, used := u } } := .of_frame
    simp only
    split
    · exact hturn
    next r rest _ =>
      have hcheck := hturn.trans (.checkHead _ p r)
      split
      next heq => rw [heq] at hcheck; exact hcheck.trans .of_frame
      next heq => rw [heq] at hcheck; exact hcheck.trans (.startHead _ p r)

theorem TakenUp.chooseOnce (s : State) : TakenUp s s.chooseOnce.1 := by
  unfold State.chooseOnce
  split
  next item rest hlist => exact .startService s item rest hlist
  · have hwalk := TakenUp.walkCursor (Config.stationSlots + 1) s
    simp only
    split
    · exact hwalk
    · exact hwalk.trans (.choosePort _)

theorem TakenUp.chooseAll (fuel : Nat) (s : State) : TakenUp s (State.chooseAll fuel s) := by
  induction fuel generalizing s with
  | zero => exact .refl s
  | succ fuel ih =>
    have honce := TakenUp.chooseOnce s
    unfold State.chooseAll
    split
    next heq => rw [heq] at honce; exact honce.trans (ih _)
    next heq => rw [heq] at honce; exact honce

theorem TakenUp.choice (s : State) : TakenUp s s.choice := by
  unfold State.choice
  split
  · exact .chooseAll _ s
  · exact .refl s

/-! ### Local requests (R147-R160) -/

theorem TakenUp.attachClaim (s : State) (p : Port) (a : Byte) : TakenUp s (s.attachClaim p a).1 := by
  refine ⟨?_, ?_, ?_, fun h => h.attachClaim p a⟩
  all_goals
    unfold State.attachClaim
    split
    · split <;> rfl
    · split
      · rfl
      · split <;> rfl

theorem TakenUp.leaveEntry (s : State) (p : Port) (k : Nat) : TakenUp s (s.leaveEntry p k) := by
  refine ⟨?_, ?_, ?_, fun h => h.leaveEntry p k⟩
  all_goals
    unfold State.leaveEntry
    split
    · rfl
    · split
      · simp only
        split <;> rfl
      · rfl

theorem TakenUp.clearChanged (s : State) (p : Port) : TakenUp s (s.clearChanged p) :=
  ⟨rfl, rfl, rfl, fun h => h.clearChanged p⟩

theorem TakenUp.doAttach (s : State) (p : Port) (r : Request) : TakenUp s (s.doAttach p r).state := by
  unfold State.doAttach
  split
  · exact .refl s
  · have hclaim := TakenUp.attachClaim s p r.top
    split <;> (next heq => rw [heq] at hclaim; exact hclaim)

theorem TakenUp.doDetach (s : State) (p : Port) (r : Request) : TakenUp s (s.doDetach p r).state := by
  unfold State.doDetach
  split
  · exact .refl s
  · split
    · exact .refl s
    · split
      · exact .refl s
      · split
        · exact .leaveEntry s p _
        · exact .refl s

theorem TakenUp.doQuery (s : State) (p : Port) (r : Request) : TakenUp s (s.doQuery p r).state := by
  unfold State.doQuery
  split
  · exact .refl s
  · split
    · unfold State.doQueryStation
      split
      · split <;> exact .refl s
      · exact .refl s
    · split
      · exact .clearChanged s p
      · split
        · exact .refl s
        · split <;> exact .refl s

/-- Of the local requests, ATTACH and DETACH alone reach the service. -/
theorem TakenUp.doLocal (s : State) (p : Port) (r : Request) : TakenUp s (s.doLocal p r).state := by
  unfold State.doLocal
  split
  · exact .doAttach s p r
  · split
    · exact .doDetach s p r
    · split
      · unfold State.doRelease
        split
        · exact .refl s
        · exact .of_frame
      · split
        · exact .of_frame
        · split
          · exact .of_frame
          · split
            · exact .doQuery s p r
            · split
              · unfold State.doMark
                split <;> exact .refl s
              · exact .refl s

theorem TakenUp.executeHead (s : State) (p : Port) : TakenUp s (s.executeHead p).1 := by
  unfold State.executeHead
  split
  · exact .refl s
  next r _ _ =>
    have hlocal := TakenUp.doLocal s p r
    split <;> (next heq => rw [heq] at hlocal; exact hlocal.trans .of_frame)

/-! ### What stands ready (R147, R79) -/

theorem TakenUp.takeFirst (s : State) (first : Due) (rest : List Due) : TakenUp s (s.takeFirst first rest).2 := by
  unfold State.takeFirst
  split
  · exact .refl s
  · exact .of_frame

theorem TakenUp.settleAll (fuel : Nat) (call : Bool) (s : State) : TakenUp s (State.settleAll fuel call s) := by
  induction fuel generalizing s call with
  | zero => exact .refl s
  | succ fuel ih =>
    unfold State.settleAll
    split
    · exact .refl s
    next first rest _ =>
      have hfirst := TakenUp.takeFirst s first rest
      split
      next heq => rw [heq] at hfirst; exact hfirst.trans ((TakenUp.executeHead _ _).trans (ih _ _))
      next heq => rw [heq] at hfirst; exact hfirst.trans ((TakenUp.choice _).trans (ih _ _))

theorem TakenUp.settle (s : State) (call : Bool) : TakenUp s (s.settle call) := .settleAll _ call s

end Sys2Proof.Machine
end

section
/-! SUPPORT. Every block's work keeps the form of the service (R81), from the end of an exchange to the commands. -/

namespace Sys2Proof.Machine

open Sys2Proof

section

variable {due : Nat → Prop} {s : State}

/-! ### The end of an exchange (R69-R76) -/

/-- The exchange is the one in the record, as far as the service sees it. -/
def State.Serving (s : State) (x : Exchange) : Prop := s.exchange.bind Exchange.serves = x.serves

theorem State.serving_of_exchange {x : Exchange} (hx : s.exchange = some x) : s.Serving x := by
  rw [State.Serving, hx]
  rfl

/-- The slot of the probe or reprobe that leaves the record is no longer in service. -/
theorem Serviced.not_served_recordIdle (h : Serviced due s) {x : Exchange} (hx : s.Serving x) {i : ServiceItem}
    (hi : x.serves = some i) : i.slot ∉ s.recordIdle.served := by
  have hserved : s.served = i.slot :: s.recordIdle.served := by
    rw [State.served, State.inService, hx, hi]
    rfl
  have honce := h.once
  rw [hserved] at honce
  exact (List.nodup_cons.mp honce).1

theorem Serviced.recordIdle (h : Serviced due s) : Serviced due s.recordIdle :=
  h.of_table rfl rfl s.serviceList_sublist

theorem Serviced.probeEnd (h : Serviced due s) {k : Nat} (hk : k ∉ s.served) (o : Final) :
    Serviced due (s.probeEnd k o) := by
  unfold State.probeEnd
  split
  all_goals
    refine (h.updEntry hk _).changeState ?_ _
    rw [State.updEntry_served]
    exact hk

theorem Serviced.reprobeEnd (h : Serviced due s) {k : Nat} (hk : k ∉ s.served) (o : Final) :
    Serviced due (s.reprobeEnd k o) := by
  unfold State.reprobeEnd
  split
  · refine (h.updEntry hk _).changeState ?_ _
    rw [State.updEntry_served]
    exact hk
  · exact h.updEntry hk _

/-- The table takes the end of an exchange whose own item is out of service. -/
theorem Serviced.tableTakesEnd (h : Serviced due s) {x : Exchange} (horphan : x.orphan = false)
    (hx : ∀ i, x.serves = some i → i.slot ∉ s.served) (o : Final) : Serviced due (s.tableTakesEnd x o) := by
  unfold State.tableTakesEnd
  cases hslot : x.slot with
  | none => exact h
  | some k =>
    cases hp : x.purpose with
    | probe => exact h.probeEnd (hx ⟨k, x.address, .probe⟩ ((x.serves_eq_some _).mpr ⟨horphan, hslot, rfl, hp⟩)) o
    | reprobe => exact h.reprobeEnd (hx ⟨k, x.address, .reprobe⟩ ((x.serves_eq_some _).mpr ⟨horphan, hslot, rfl, hp⟩)) o
    | resync => exact h.outcomeClaim k x o
    | poll => exact h.outcomeClaim k x o
    | request => exact h.outcomeClaim k x o

/-- The routing of a report changes nothing of an entry but its gap marks (R130). -/
theorem Serviced.route (h : Serviced due s) (k : Nat) (station : Byte) (items : List Item) :
    Serviced due (s.route k station items) := by
  unfold State.route
  split
  · exact h
  · refine Serviced.updEntry_same ?_ k fun _ => ⟨rfl, rfl, rfl⟩
    exact h.of_frame

theorem Serviced.routerTakesEnd (h : Serviced due s) (x : Exchange) (o : Final) :
    Serviced due (s.routerTakesEnd x o) := by
  unfold State.routerTakesEnd
  split
  · exact h.route _ _ _
  · exact h

theorem Serviced.watchTakesEnd (h : Serviced due s) (x : Exchange) (o : Final) :
    Serviced due (s.watchTakesEnd x o) := by
  have hreach := OutcomeReaches.watchTakesEnd s x o
  exact h.of_frame (s.watchTakesEnd_table x o) (congrArg State.loader hreach.rest :) hreach.exchange
    (congrArg _ hreach.arbiter)

theorem Serviced.attachesTakeEnd (h : Serviced due s) (x : Exchange) : Serviced due (s.attachesTakeEnd x) := by
  unfold State.attachesTakeEnd
  split
  · split
    · exact h.of_frame
    · exact h
  · exact h

theorem Serviced.arbiterTakesEnd (h : Serviced due s) (x : Exchange) (o : Final) :
    Serviced due (s.arbiterTakesEnd x o) := by
  unfold State.arbiterTakesEnd
  split
  · refine h.of_frame (hlist := ?_)
    unfold Arbiter.pollEnded
    split
    · rfl
    · exact (Arbiter.advance_keeps _).1
  · exact h

theorem Serviced.portTakesEnd (h : Serviced due s) (x : Exchange) (o : Final) : Serviced due (s.portTakesEnd x o) := by
  unfold State.portTakesEnd
  split
  · exact h.of_frame
  · exact h

theorem Serviced.handEnd (h : Serviced due s) {x : Exchange} (hx : s.Serving x) (o : Final) :
    Serviced due (s.handEnd x o) := by
  cases horphan : x.orphan with
  | true =>
    rw [s.handEnd_orphan x o horphan]
    exact (h.recordIdle.arbiterTakesEnd x o).portTakesEnd x o
  | false =>
    have htable : Serviced due (s.recordIdle.tableTakesEnd x o) :=
      h.recordIdle.tableTakesEnd horphan (fun _ hi => h.not_served_recordIdle hx hi) o
    rw [s.handEnd_not_orphan x o horphan]
    exact ((((htable.watchTakesEnd x o).routerTakesEnd x o).attachesTakeEnd x).arbiterTakesEnd x o).portTakesEnd x o

theorem TakenUp.startPaired (s : State) (p : Port) : TakenUp s (s.startPaired p) := by
  have hunpaired : TakenUp s { s with arbiter := { s.arbiter with pairing := none } } := .of_frame
  simp only [State.startPaired]
  split
  · exact hunpaired
  · exact hunpaired.trans (.startHead _ p _)

theorem TakenUp.failPaired (s : State) (p : Port) (attempts : Nat) : TakenUp s (s.failPaired p attempts) := by
  simp only [State.failPaired]
  split
  · exact .of_frame
  · split <;> exact .of_frame

theorem TakenUp.originExecutes (s : State) (x : Exchange) : TakenUp s (s.originExecutes x) := by
  unfold State.originExecutes
  split
  · split
    · exact .executeHead s _
    · exact .refl s
  · exact .refl s

/-- After the blocks have the end of the exchange, the part takes up what stands ready. -/
theorem State.endExchange_takenUp (s : State) (x : Exchange) (o : Final) :
    TakenUp (s.handEnd x o) (s.endExchange x o) := by
  simp only [State.endExchange]
  split
  · split
    · exact (TakenUp.startPaired _ _).trans (.settle _ false)
    · exact ((TakenUp.failPaired _ _ _).trans (.choice _)).trans (.settle _ false)
  · exact (TakenUp.originExecutes _ x).trans (.settle _ true)

theorem Serviced.endExchange (h : Serviced due s) {x : Exchange} (hx : s.Serving x) (o : Final) :
    Serviced due (s.endExchange x o) :=
  (s.endExchange_takenUp x o).service (h.handEnd hx o)

/-! ### Attempts and replies (R54-R68) -/

/-- An exchange in the record that serves what the last one served. -/
theorem Serviced.of_exchange {t : State} {x : Exchange} (h : Serviced due s) (hx : s.Serving x)
    (hexchange : t.exchange.bind Exchange.serves = x.serves) (htable : t.table = s.table := by rfl)
    (hloader : t.loader = s.loader := by rfl)
    (hlist : t.arbiter.serviceList = s.arbiter.serviceList := by rfl) : Serviced due t := by
  refine h.of_table htable hloader ?_
  rw [State.inService, State.inService, hexchange, hx, hlist]

theorem Serviced.failAttempt (h : Serviced due s) {x : Exchange} (hx : s.Serving x) (f : Failure) :
    Serviced due (s.failAttempt x f) := by
  simp only [State.failAttempt]
  split
  · split <;> exact h.of_exchange hx rfl
  · exact h.endExchange hx _

theorem Serviced.await (h : Serviced due s) {x : Exchange} (hx : s.Serving x) : Serviced due (s.await x) :=
  h.of_exchange hx rfl

theorem Serviced.retry (h : Serviced due s) {x : Exchange} (hx : s.Serving x) : Serviced due (s.retry x) :=
  h.of_exchange hx rfl

theorem Serviced.ite {c : Prop} [Decidable c] {a b : State} (ha : Serviced due a) (hb : Serviced due b) :
    Serviced due (if c then a else b) := by
  split
  · exact ha
  · exact hb

theorem Serviced.sendDone (h : Serviced due s) : Serviced due s.sendDone := by
  unfold State.sendDone
  split
  · exact h
  next x hx =>
    have hserving := State.serving_of_exchange hx
    split
    · split
      · exact .ite (h.endExchange hserving _) (h.of_exchange hserving rfl)
      · exact h.await hserving
    · exact h

theorem Serviced.frameBegun (h : Serviced due s) : Serviced due s.frameBegun := by
  unfold State.frameBegun
  split
  · exact h
  next x hx => exact .ite (h.of_exchange (State.serving_of_exchange hx) rfl) h

theorem Serviced.replyExpired (h : Serviced due s) : Serviced due s.replyExpired := by
  unfold State.replyExpired
  split
  · exact h
  next x hx => exact .ite (h.failAttempt (State.serving_of_exchange hx) _) h

theorem Serviced.holdoffExpired (h : Serviced due s) : Serviced due s.holdoffExpired := by
  unfold State.holdoffExpired
  split
  · exact h
  next x hx => exact .ite (h.endExchange (State.serving_of_exchange hx) _) h

theorem Serviced.takeAnswer (h : Serviced due s) {x : Exchange} (hx : s.Serving x) (index : Nat) (values : List Half)
    (more : Bool) : Serviced due (s.takeAnswer x index values more) := by
  by_cases hbad : x.BadFragment index values more
  · rw [s.takeAnswer_bad x index values more hbad]
    exact h.failAttempt hx _
  · rw [s.takeAnswer_good x index values more hbad]
    exact .ite (h.of_exchange hx rfl) (h.endExchange hx _)

theorem Serviced.takeRefuse (h : Serviced due s) {x : Exchange} (hx : s.Serving x) (reason : RefuseReason) :
    Serviced due (s.takeRefuse x reason) := by
  by_cases hbusy : reason = .busy
  · subst hbusy
    exact h.failAttempt hx _
  · rw [s.takeRefuse_of_ne_busy x reason hbusy]
    exact h.endExchange hx _

theorem Serviced.takeReply (h : Serviced due s) {x : Exchange} (hx : s.Serving x) (reply : Reply) :
    Serviced due (s.takeReply x reply) := by
  rcases s.takeReply_cases x reply with heq | ⟨reason, heq⟩ | ⟨index, values, more, heq⟩ | ⟨o, heq⟩ <;> rw [heq]
  · exact h.failAttempt hx .protocol
  · exact h.takeRefuse hx reason
  · exact h.takeAnswer hx index values more
  · exact h.endExchange hx o

@[simp] theorem State.heard_exchange (s : State) (k : Nat) : (s.heard k).exchange = s.exchange := by
  unfold State.heard
  split
  · rfl
  · split <;> simp

theorem Serviced.takeValid (h : Serviced due s) {x : Exchange} (hx : s.Serving x) (source : Byte) (reply : Reply) :
    Serviced due (s.takeValid x source reply) := by
  simp only [State.takeValid]
  split
  · exact h.failAttempt hx _
  · split
    next k _ _ =>
      refine (h.heard k).takeReply ?_ reply
      rw [State.Serving, State.heard_exchange]
      exact hx
    · exact h.takeReply hx reply

theorem Serviced.frameEnded (h : Serviced due s) (report : FrameReport) : Serviced due (s.frameEnded report) := by
  by_cases hphase : ∀ x, s.exchange = some x → x.phase ≠ .receiving
  · rw [s.frameEnded_elsewhere report hphase]
    exact h
  · push Not at hphase
    obtain ⟨x, hx, hphase⟩ := hphase
    have hserving := State.serving_of_exchange hx
    rw [s.frameEnded_receiving x report hx hphase]
    cases report with
    | garbled cause => exact h.failAttempt hserving _
    | ignored => exact h.await hserving
    | malformed source => exact h.failAttempt hserving _
    | valid source reply => exact h.takeValid hserving source reply

/-! ### The field line (R1-R9) -/

theorem Serviced.setRx (h : Serviced due s) (rx : Receiver) : Serviced due (s.setRx rx) := h.of_frame

theorem Serviced.takeCharacter (h : Serviced due s) (data : Byte) (fault : Bool) :
    Serviced due (s.takeCharacter data fault) := by
  have hbegun : Serviced due (if s.line.rx = .hunting then s.frameBegun else s) := .ite h.frameBegun h
  simp only [State.takeCharacter]
  split
  · exact (hbegun.setRx .discarding).frameEnded _
  · exact hbegun.setRx _

theorem Serviced.confirmFrame (h : Serviced due s) : Serviced due s.confirmFrame := by
  unfold State.confirmFrame
  split
  · exact h
  · exact h
  · exact (h.setRx .hunting).frameEnded _
  · exact (h.setRx .hunting).frameEnded _
  · exact h.setRx .hunting

/-- A change of the record that the service does not see. -/
theorem Serviced.map_exchange {t : State} (h : Serviced due s) {f : Exchange → Exchange}
    (hf : ∀ x, (f x).serves = x.serves) (hx : t.exchange = s.exchange.map f) (htable : t.table = s.table := by rfl)
    (hloader : t.loader = s.loader := by rfl)
    (hlist : t.arbiter.serviceList = s.arbiter.serviceList := by rfl) : Serviced due t := by
  have hbind : t.exchange.bind Exchange.serves = s.exchange.bind Exchange.serves := by
    rw [hx]
    cases s.exchange with
    | none => rfl
    | some x => exact hf x
  refine h.of_table htable hloader ?_
  rw [State.inService, State.inService, hbind, hlist]

theorem Serviced.elapse (h : Serviced due s) (n : Nat) : Serviced due (s.elapse n) :=
  h.map_exchange (f := (·.elapse n)) (fun _ => rfl) rfl

theorem Serviced.lapse (h : Serviced due s) (n : Nat) : Serviced due (s.lapse n) := by
  simp only [State.lapse]
  exact .ite (h.elapse n).confirmFrame (h.elapse n)

theorem Serviced.transmit (h : Serviced due s) : Serviced due s.transmit := by
  unfold State.transmit
  split
  · exact .ite h.of_frame h
  · exact h

theorem Serviced.gapEnds (h : Serviced due s) : Serviced due s.gapEnds := by
  unfold State.gapEnds
  split
  next x hx => exact .ite (h.retry (State.serving_of_exchange hx)) h
  · exact h

theorem Serviced.completeSend (h : Serviced due s) : Serviced due s.completeSend := by
  have hrelease : Serviced due { s with line := s.line.release } := h.of_frame
  exact hrelease.sendDone

theorem Serviced.bitTime (h : Serviced due s) : Serviced due s.bitTime := by
  have hlapse := h.lapse 1
  unfold State.bitTime
  split
  · split
    · exact h.of_frame
    · exact h.completeSend
    · have hreply : Serviced due (if (s.lapse 1).replyLeft = some 0 then (s.lapse 1).replyExpired else s.lapse 1) :=
        .ite hlapse.replyExpired hlapse
      exact (Serviced.ite hreply.holdoffExpired hreply).gapEnds.transmit
  · exact h

/-! ### Submission (R143, R145) -/

theorem TakenUp.commit (s : State) (p : Port) (r : Request) : TakenUp s (s.commit p r).1 := by
  simp only [State.commit]
  split
  · exact .refl s
  · split <;> exact .of_frame

theorem TakenUp.voidWord (s : State) (p : Port) : TakenUp s (s.voidWord p) := by
  unfold State.voidWord
  split
  · exact .of_frame
  · exact .refl s

theorem TakenUp.stage (s : State) (p : Port) (w : Word) : TakenUp s (s.stage p w) := by
  simp only [State.stage]
  split
  · exact .refl s
  · split
    · have hemptied : TakenUp s (s.updPort p ({ · with staging := [] })) := .of_frame
      exact (hemptied.trans (.commit _ p _)).trans (.settle _ _)
    · exact .of_frame

theorem TakenUp.submitWord (s : State) (p : Port) (w : Word) : TakenUp s (s.submitWord p w) := by
  unfold State.submitWord
  split
  · have hsend : TakenUp s (s.send p 0) := .of_frame
    exact hsend.trans (.stage _ p w)
  · exact .voidWord s p

theorem TakenUp.submitWords (s : State) (p : Port) (ws : List Word) : TakenUp s (s.submitWords p ws) :=
  List.foldlRecOn (motive := TakenUp s) ws _ (.refl s) fun t ht w _ => ht.trans (.submitWord t p w)

/-! ### Start-up (R30, R182-R190) -/

theorem State.reset_serviced : Serviced due State.reset := by
  have hentry : ∀ k, State.reset.entry k = none := by
    intro k
    show (List.replicate Config.stationSlots none).getD k none = (none : Option Entry)
    rw [List.getD_eq_getElem?_getD, List.getElem?_replicate]
    split <;> rfl
  refine ⟨rfl, by decide, List.nodup_nil, fun i hi => absurd hi List.not_mem_nil, fun k e _ he => ?_⟩
  cases (hentry k).symm.trans he

/-- Every judgement leaves a reprobe interval of at least 1 (R186). -/
theorem judge_interval (reading : Reading) : 1 ≤ (judge reading).params.reprobeInterval := by
  have hdefault : 1 ≤ Config.defaults.reprobeInterval := by decide
  have hsettle : ∀ v, 1 ≤ settleField 1 255 10 v := by
    intro v
    unfold settleField
    split
    next hrange => exact hrange.1
    · decide
  unfold judge
  split
  · exact hdefault
  · split
    · exact hdefault
    · split
      · exact hdefault
      · exact hsettle _

theorem Serviced.applyLoad (h : Serviced due s) (image : List Byte) (bus : List BusOp) {j : Judgement}
    (hj : 1 ≤ j.params.reprobeInterval) : Serviced due (s.applyLoad image bus j) := by
  have hloaded : Serviced due { s with loader := Loader.finished image bus j } :=
    ⟨h.slots, hj, h.once, h.stands, h.waits⟩
  simp only [State.applyLoad]
  refine Serviced.of_frame (s := j.kept.foldl (fun s kept => s.preAttach kept)
    { s with loader := Loader.finished image bus j }) ?_
  exact List.foldlRecOn (motive := Serviced due) _ _ hloaded fun _ ht kept _ => ht.preAttach kept

/-- The probe that a warm restart puts on the list for a slot (R98). -/
def probeOf (table : List (Option Entry)) (k : Nat) : Option ServiceItem :=
  match table.getD k none with
  | some e => if e.state = .probing then some ⟨k, e.address, .probe⟩ else none
  | none => none

theorem probesOf_eq (table : List (Option Entry)) :
    probesOf table = (List.range table.length).filterMap (probeOf table) := rfl

theorem probeOf_eq_some {table : List (Option Entry)} {k : Nat} {i : ServiceItem} (h : probeOf table k = some i) :
    ∃ e, table.getD k none = some e ∧ e.state = .probing ∧ i = ⟨k, e.address, .probe⟩ := by
  unfold probeOf at h
  split at h
  next e he =>
    split at h
    next hstate => exact ⟨e, he, hstate, (Option.some.inj h).symm⟩
    · cases h
  · cases h

theorem probesOf_slots_nodup (table : List (Option Entry)) : ((probesOf table).map (·.slot)).Nodup := by
  have hslot : ∀ k n, n ∈ (probeOf table k).map (·.slot) → n = k := by
    intro k n hn
    obtain ⟨i, hi, rfl⟩ := Option.map_eq_some_iff.mp hn
    obtain ⟨e, -, -, rfl⟩ := probeOf_eq_some hi
    rfl
  rw [probesOf_eq, List.map_filterMap]
  exact List.Nodup.filterMap (fun j k n hj hk => (hslot j n hj).symm.trans (hslot k n hk)) List.nodup_range

theorem Serviced.restart (h : Serviced noneDue s) : Serviced noneDue s.restart := by
  refine ⟨by simp [State.restart, h.slots], h.interval, ?_, fun i hi => ?_, fun _ _ hdue => hdue.elim⟩
  · exact probesOf_slots_nodup _
  · have hprobe : i ∈ probesOf s.restart.table := hi
    rw [probesOf_eq] at hprobe
    obtain ⟨k, -, hk⟩ := List.mem_filterMap.mp hprobe
    obtain ⟨e, he, hstate, rfl⟩ := probeOf_eq_some hk
    exact ⟨e, he, rfl, fun _ => hstate, nofun⟩

/-! ### Control operations (R167-R172) -/

theorem Serviced.closePort (h : Serviced due s) (p : Port) : Serviced due (s.closePort p) := by
  have hmarked : ∀ x : Exchange, (x.closedBy p).serves = x.serves := by
    intro x
    unfold Exchange.closedBy
    split <;> rfl
  have hclosed : Serviced due ((State.updPort { s with
      exchange := s.exchange.map fun x : Exchange => x.closedBy p
      arbiter := { s.arbiter with pairing := if s.arbiter.pairing = some p then none else s.arbiter.pairing } }
      p PortUnit.closes).emptyWatches p) := h.map_exchange hmarked rfl
  exact (hclosed.leaveAll p).of_frame

theorem Serviced.takeControlWord (h : Serviced due s) (p : Port) (w : Word) :
    Serviced due (s.takeControlWord p w) := by
  have hsend : Serviced due (s.send p 0) := h.of_frame
  simp only [State.takeControlWord]
  split
  · split
    next op _ =>
      unfold State.takeControl
      split
      · cases op with
        | close => exact hsend.closePort p
        | openPort | doze | wakeup | clear | mask | force => exact hsend.of_frame
      · exact hsend
    · exact hsend
  · exact (TakenUp.voidWord s p).service h

/-! ### Slow time (R35, R95, R110) -/

/-- A reprobe that waits joins the list, if its entry is still overdue, and waits no longer (R35). -/
theorem Serviced.appendReprobe (h : Serviced due s) {k : Nat} (hk : due k) :
    Serviced (fun j => due j ∧ j ≠ k) (s.appendReprobe k) := by
  have hless : Serviced (fun j => due j ∧ j ≠ k) s := h.with_due fun j hj => .inl hj.1
  unfold State.appendReprobe
  split
  · exact hless
  next e he =>
    split
    next hover =>
      refine hless.appendService (h.waits k e hk he hover) ⟨e, he, rfl, nofun, fun _ => hover⟩
        (.inr fun hself => hself.2 rfl)
    · exact hless

/-- Each event of a poll tick that is taken waits no longer; `events` are those still to be taken. -/
theorem Serviced.pollEvent {events : List PollEvent} (h : Serviced (fun k => .reprobe k ∈ events) s) {e : PollEvent}
    (he : e ∈ events) : Serviced (fun k => .reprobe k ∈ events ∧ .reprobe k ≠ e) (s.pollEvent e) := by
  cases e with
  | reprobe k =>
    refine (TakenUp.settle _ true).service ((h.appendReprobe he).with_due fun j hj => .inl ⟨hj.1, ?_⟩)
    rintro rfl
    exact hj.2 rfl
  | cycle =>
    refine (TakenUp.settle _ true).service ?_
    have hopened : Serviced (fun k => .reprobe k ∈ events) { s with arbiter := s.arbiter.openCycle } := h.of_frame
    exact hopened.with_due fun j hj => .inl hj.1

theorem Serviced.pollEvents (n : Nat) {events : List PollEvent} (hevents : events.Nodup)
    (h : Serviced (fun k => .reprobe k ∈ events) s) : Serviced noneDue (State.pollEvents n events s) := by
  induction n generalizing s events with
  | zero => exact h.with_due fun _ hdue => hdue.elim
  | succ n ih =>
    unfold State.pollEvents
    split
    · exact h.with_due fun _ hdue => hdue.elim
    next e => exact (h.pollEvent List.mem_cons_self).with_due fun _ hdue => hdue.elim
    next e rest _ =>
      have hi : Config.racePick s.races % (rest.length + 1) < (e :: rest).length := Nat.mod_lt _ (Nat.succ_pos _)
      simp only
      generalize Config.racePick s.races % (rest.length + 1) = i at hi ⊢
      have htaken : (e :: rest).getD i e = (e :: rest)[i] := List.getD_eq_getElem _ _ hi
      refine ih (hevents.sublist (List.eraseIdx_sublist _ _)) ?_
      have hraced : Serviced (fun k => .reprobe k ∈ e :: rest) { s with races := s.races + 1 } := h.of_frame
      rw [htaken]
      refine (hraced.pollEvent (List.getElem_mem hi)).with_due fun k hk => .inl ?_
      obtain ⟨j, hj, hne, heq⟩ := List.mem_eraseIdx_iff_getElem.mp hk
      exact ⟨List.mem_of_getElem heq, fun hself => hne ((hevents.getElem_inj_iff).mp (heq.trans hself))⟩

/-- A slot whose countdown is about to run out is not in service (R35). -/
theorem Serviced.not_served_of_reprobesDue (h : Serviced due s) {k : Nat} (hk : k ∈ s.reprobesDue) :
    k ∉ s.served := by
  obtain ⟨-, hk⟩ := List.mem_filter.mp hk
  split at hk
  next e he =>
    simp only [Bool.and_eq_true, decide_eq_true_eq] at hk
    exact h.not_served he (by simp [hk.1]) (by simp [Entry.Overdue, hk.2])
  · cases hk

/-- A poll tick at its three owners, before the events of R79 that it brings (R35, R95, R96, R110). -/
def State.ticked (s : State) : State :=
  let t := { s.reloadPollTimer.ageWatches with table := s.table.map countDown }
  if s.loader.params.pollingEnabled && s.arbiter.cycleOpen then t.overrun else t

/-- The events of R79 that a poll tick brings. -/
def State.tickEvents (s : State) : List PollEvent :=
  s.reprobesDue.map PollEvent.reprobe
    ++ (if s.loader.params.pollingEnabled && !s.arbiter.cycleOpen then [.cycle] else [])

theorem State.pollTick_eq (s : State) : s.pollTick = State.pollEvents s.tickEvents.length s.tickEvents s.ticked := rfl

theorem State.reprobe_mem_tickEvents (s : State) (k : Nat) : .reprobe k ∈ s.tickEvents ↔ k ∈ s.reprobesDue := by
  unfold State.tickEvents
  split <;> simp

theorem State.tickEvents_nodup (s : State) : s.tickEvents.Nodup := by
  have hreprobes : (s.reprobesDue.map PollEvent.reprobe).Nodup :=
    (List.nodup_range.filter _).map fun _ _ heq => PollEvent.reprobe.inj heq
  unfold State.tickEvents
  split
  · exact hreprobes.append (List.nodup_singleton _) (by simp)
  · rwa [List.append_nil]

/-- The countdowns of the entries in service have run out already (R35). -/
theorem Serviced.ticked (h : Serviced noneDue s) : Serviced noneDue s.ticked := by
  have hcount : Serviced noneDue { s.reloadPollTimer.ageWatches with table := s.table.map countDown } := by
    refine h.map_entries (f := fun e => if e.counting then { e with countdown := e.countdown - 1 } else e) rfl rfl
      (List.Sublist.refl _) (fun i _ e ⟨haddress, hprobe, hreprobe⟩ => ?_) fun _ _ hdue => hdue.elim
    split
    next hcounting =>
      simp only [Entry.counting, Bool.and_eq_true, decide_eq_true_eq] at hcounting
      exact ⟨haddress, hprobe, fun hp => absurd (hreprobe hp).2 (Nat.ne_of_gt hcounting.2)⟩
    · exact ⟨haddress, hprobe, hreprobe⟩
  exact .ite hcount.of_frame hcount

theorem State.ticked_served (s : State) : s.ticked.served = s.served := by
  unfold State.ticked
  split <;> rfl

theorem Serviced.pollTick (h : Serviced noneDue s) : Serviced noneDue s.pollTick := by
  rw [s.pollTick_eq]
  refine Serviced.pollEvents _ s.tickEvents_nodup (h.ticked.with_due fun k hk => .inr ?_)
  rw [s.ticked_served]
  exact h.not_served_of_reprobesDue ((s.reprobe_mem_tickEvents k).mp hk)

theorem TakenUp.expireWatch (s : State) (p : Port) (k : WatchNo) : TakenUp s (s.expireWatch p k) := by
  simp only [State.expireWatch]
  split
  · split <;> exact .of_frame
  · exact .refl s

/-! ### The commands -/

/-- A word of a TAKE changes its port alone (R164). -/
theorem TakenUp.takeWord (s : State) (p : Port) (c : Channel) (take : PortUnit → PortUnit × Word) :
    TakenUp s (s.takeWord p c take) := by
  simp only [State.takeWord]
  split
  · exact .of_frame
  · exact .voidWord s p

/-- The next state, where the outcome is one, has the form of the service. -/
def KeepsService (o : Host.Outcome State Fault Refusal) : Prop := ∀ t, o = .next t → Serviced noneDue t

theorem Serviced.next (h : Serviced noneDue s) : KeepsService (.next s) := by
  intro u hu
  cases hu
  exact h

theorem KeepsService.ite {c : Prop} [Decidable c] {a b : Host.Outcome State Fault Refusal} (ha : c → KeepsService a)
    (hb : KeepsService b) : KeepsService (if c then a else b) := by
  split
  next hc => exact ha hc
  · exact hb

theorem execReprobeDue_keepsService (h : Serviced noneDue s) (slot : Fin 32) :
    KeepsService (execReprobeDue slot s) := by
  unfold execReprobeDue
  split
  next e he =>
    refine .ite (fun hdue => ?_) h.next
    obtain ⟨-, hoffline, hcount⟩ := hdue
    have hk : slot.val ∉ s.served := h.not_served he (by simp [hoffline]) (by simp [Entry.Overdue, hcount])
    have hset : Serviced (· = slot.val) (s.setEntry slot.val (some { e with countdown := 0 })) :=
      (h.setEntry_of_not_served hk _).with_due fun k hself => .inr (hself ▸ hk)
    exact ((TakenUp.settle _ true).service ((hset.appendReprobe rfl).with_due fun _ hdue => hdue.elim)).next
  · exact h.next

theorem execCharacterReceived_keepsService (h : Serviced noneDue s) (data : Byte) (parity stop : Bool) :
    KeepsService (execCharacterReceived data parity stop s) := by
  have hduring : Serviced noneDue (s.duringCharacter stop) := by
    refine h.map_exchange (f := fun x => { x with holdoffTimer := x.holdoffTimer.map fun n => n - Config.characterBits })
      (fun _ => rfl) rfl
  exact .ite (fun _ => h.of_frame.next) (.ite (fun _ => h.next) (hduring.takeCharacter _ _).next)

/-- Each command keeps the form of the service. -/
theorem exec_keepsService (h : Serviced noneDue s) (c : Instr) : KeepsService (exec c s) := by
  cases c with
  | powerOnReset => exact (State.reset_serviced.of_frame).next
  | loadStart =>
    refine .ite (fun _ => Serviced.next ?_) h.next
    exact ⟨h.slots, h.interval, h.once, h.stands, h.waits⟩
  | loadEnd lines =>
    refine .ite (fun _ => Serviced.next ?_) h.next
    exact (TakenUp.settle _ true).service (h.applyLoad _ _ (judge_interval (readMemory lines).2))
  | warmRestart => exact .ite (fun _ => h.restart.next) h.next
  | warmRestartEnd =>
    refine .ite (fun _ => Serviced.next ((TakenUp.settle _ true).service ?_)) h.next
    exact h.of_frame
  | channelOperation p op => exact .ite (fun _ => h.of_frame.next) h.next
  | transactionBegin p => exact .ite (fun _ => h.next) h.of_frame.next
  | transactionEnd p => exact h.of_frame.next
  | submitWord p w => exact ((TakenUp.submitWord s p w).service h).next
  | takeCompletion p => exact ((TakenUp.takeWord s p _ _).service h).next
  | takeReport p => exact ((TakenUp.takeWord s p _ _).service h).next
  | statusRead p full => exact .ite (fun _ => h.of_frame.next) h.next
  | openPort p | doze p | wakeup p | close p | clear p flags | mask p flags | force p flags
  | invalidControlOperation p w => exact (h.takeControlWord p _).next
  | read p | write p | cwrite p | attach p | detach p | release p | filterMode p | filterListAdd p
  | filterListRemove p | filterHashSet p | filterHashClear p | filterClearAll p | wakeset p | queryStation p
  | queryChanges p | queryWatches p | queryLine p | mark p | unassignedKind p =>
    exact ((TakenUp.submitWords s p _).service h).next
  | transmitStart =>
    show KeepsService (execTransmitStart s)
    unfold execTransmitStart
    split
    · exact (h.lapse _).transmit.next
    · exact h.next
  | sendComplete =>
    show KeepsService (execSendComplete s)
    unfold execSendComplete
    split
    · exact h.completeSend.next
    · exact h.next
  | characterReceived data parity stop => exact execCharacterReceived_keepsService h data parity stop
  | frameConfirmation => exact .ite (fun _ => (h.lapse _).next) h.next
  | replyTimerExpiry =>
    show KeepsService (execReplyTimerExpiry s)
    unfold execReplyTimerExpiry
    split
    · exact (h.lapse _).replyExpired.next
    · exact h.next
  | retryGapEnd => exact .ite (fun _ => (h.lapse _).gapEnds.next) h.next
  | holdoffExpiry =>
    show KeepsService (execHoldoffExpiry s)
    unfold execHoldoffExpiry
    split
    · exact (h.lapse _).holdoffExpired.next
    · exact h.next
  | tick =>
    show KeepsService (execTick s)
    unfold execTick
    split
    · exact h.next
    · exact .ite (fun _ => h.pollTick.next) h.of_frame.next
  | pollTick =>
    show KeepsService (execPollTick s)
    unfold execPollTick
    split
    · exact h.next
    · exact h.pollTick.next
  | reprobeDue slot => exact execReprobeDue_keepsService h slot
  | watchExpired p k => exact .ite (fun _ => ((TakenUp.expireWatch s p k).service h).next) h.next
  | lineReturnsHigh => exact h.of_frame.next

theorem step_keepsService (h : Serviced noneDue s) : KeepsService (step s) := by
  unfold step
  split
  · exact h.bitTime.next
  next c rest _ =>
    have hpopped : Serviced noneDue { s with pending := rest } := h.of_frame
    exact exec_keepsService hpopped c

end

end Sys2Proof.Machine
end

section
/-! CLAIM. The form of the service list. -/

open Sys2Proof Sys2Proof.Machine

/-- Settles O56: every command, and a bit time on an empty queue, keeps the form of the service. -/
theorem serviceListStaysSound : Obligations.ServiceListStaysSound :=
  fun s t h hstep => (serviceInv_iff t).mpr (step_keepsService ((serviceInv_iff s).mp h) t hstep)

end

section
/-! SUPPORT. WARM_RESTART_END (R98, R9, R95): the state in which the part resumes, and the probe it starts. -/

namespace Sys2Proof.Machine

open Sys2Proof

/-- The part runs again: the line is enabled and the time base starts; nothing has been chosen yet (R9, R95, R98). -/
def State.resumed (s : State) : State := { s with run := .running, line := s.line.enabled }.startPollTimer

theorem exec_warmRestartEnd_restarting (s : State) (h : s.run = .restarting) :
    exec .warmRestartEnd s = .next (s.resumed.settle true) := if_pos h

theorem exec_warmRestartEnd_elsewhere (s : State) (h : s.run ≠ .restarting) : exec .warmRestartEnd s = .next s :=
  if_neg h

theorem ServicePurpose.exchange_eq (purpose : ServicePurpose) :
    purpose.exchange = if purpose = .probe then .probe else .reprobe := by
  cases purpose <;> rfl

/-- With empty queues the first item of the list is what the resumed part starts (R80, R82, R98). -/
theorem State.resumed_settle (s : State) {item : ServiceItem} {rest : List ServiceItem} {e : Entry}
    (hqueues : ∀ q, (s.port q).queue = []) (hx : s.exchange = none) (hlist : s.arbiter.serviceList = item :: rest)
    (he : s.entry item.slot = some e) :
    s.resumed.settle true = ({ s.resumed with arbiter := { s.resumed.arbiter with serviceList := rest } } : State).startExchange
      (pingExchange item.purpose.exchange item.slot e) := by
  have hchoice := (s.resumed.choice_service item rest hx rfl hlist).trans (s.resumed.startService_of_entry he rest)
  rw [s.resumed.settle_choice (fun q => State.localReady_of_empty _ q (hqueues q)) hx, hchoice]
  rw [hchoice]
  exact fun q => State.localReady_of_empty _ q (hqueues q)

end Sys2Proof.Machine
end

section
/-! CLAIM. WARM_RESTART_END. -/

open Sys2Proof Sys2Proof.Machine

/-- Settles O9: what the resumed part takes up leaves the run, the Loader and the timer; where nothing waits it is
nothing, and otherwise the head of the list starts. -/
theorem warmRestartEndResumes : Obligations.WarmRestartEndResumes := by
  refine fun s => ⟨exec_warmRestartEnd_elsewhere s, fun hrun => ?_, fun hrun hnothing hx => ?_,
    fun item rest e hrun hqueues hx hlist he => ?_⟩
  all_goals rw [exec_warmRestartEnd_restarting s hrun]
  · have htaken := TakenUp.settle s.resumed true
    exact ⟨_, rfl, htaken.run, htaken.loader, htaken.pollTimer⟩
  · have hresumed : s.resumed.NothingWaits := ⟨hnothing.queues, hnothing.service, hnothing.cycle⟩
    exact congrArg _ (State.settleAll_of_nothingWaits _ _ true hresumed hx)
  · rw [s.resumed_settle hqueues hx hlist he, ← ServicePurpose.exchange_eq]
    rfl

end

section
/-! SUPPORT. The port rotation (R88). -/

namespace Sys2Proof.Machine

open Sys2Proof

/-- The present port keeps its turn while it is eligible and its turns last (R88). -/
theorem rotate_stays {eligible : Port → Bool} {weight : Port → Nat} {p : Port} {u : Nat} (n : Nat)
    (hp : eligible p = true) (hu : u < weight p) : rotate eligible weight (n + 1) p u = some (p, u) := by
  simp [rotate, hp, hu]

/-- Otherwise the turn goes on to the next port, with u at 0 (R88). -/
theorem rotate_advances {eligible : Port → Bool} {weight : Port → Nat} {p : Port} {u : Nat} (n : Nat)
    (h : ¬ (eligible p = true ∧ u < weight p)) :
    rotate eligible weight (n + 1) p u = rotate eligible weight n (p + 1) 0 := by
  have hnot : (eligible p && decide (u < weight p)) = false := by simpa using h
  simp [rotate, hnot]

/-- The port n after q, counted round (R88). -/
def portAfter (q : Port) (n : Nat) : Port := q + Fin.ofNat 4 n

theorem portAfter_zero (q : Port) : portAfter q 0 = q := add_zero q

theorem portAfter_succ (q : Port) (n : Nat) : portAfter q (n + 1) = portAfter (q + 1) n := by
  refine Fin.ext ?_
  simp only [portAfter, Fin.val_add, Fin.ofNat]
  omega

theorem portAfter_val (q n : Port) : portAfter q n.val = q + n := by
  rw [portAfter, Fin.ofNat_val_eq_self]

/-- From u at 0 the search finds the first eligible port within its examinations (R88). -/
theorem rotate_first {eligible : Port → Bool} {weight : Port → Nat} (hw : ∀ q, 1 ≤ weight q) (n fuel : Nat)
    (hn : n < fuel) (q : Port) (hfound : eligible (portAfter q n) = true)
    (hbefore : ∀ m < n, eligible (portAfter q m) = false) :
    rotate eligible weight fuel q 0 = some (portAfter q n, 0) := by
  induction n generalizing fuel q with
  | zero =>
    obtain _ | fuel := fuel
    · cases hn
    rw [portAfter_zero] at hfound ⊢
    exact rotate_stays fuel hfound (hw q)
  | succ n ih =>
    obtain _ | fuel := fuel
    · cases hn
    have hq : eligible q = false := by
      have hfirst := hbefore 0 (Nat.succ_pos n)
      rwa [portAfter_zero] at hfirst
    rw [portAfter_succ] at hfound ⊢
    rw [rotate_advances fuel (by simp [hq])]
    refine ih fuel (Nat.lt_of_succ_lt_succ hn) (q + 1) hfound fun m hm => ?_
    rw [← portAfter_succ]
    exact hbefore (m + 1) (Nat.succ_lt_succ hm)

end Sys2Proof.Machine
end

section
/-! CLAIM. The port rotation. -/

open Sys2Proof Sys2Proof.Machine

/-- Settles O20: the turn stays, or goes on to the first eligible port of the four that follow. -/
theorem rotationServesTheNextEligiblePort : Obligations.RotationServesTheNextEligiblePort := by
  refine fun eligible weight start u hw => ⟨fun hnone => ?_, fun hstart hu => rotate_stays 4 hstart hu,
    fun hnot n hfound hbefore => ?_⟩
  · rw [show eligible = fun _ => false from funext hnone]
    exact rotate_none weight 5 start u
  · have hsearch := rotate_first (eligible := eligible) hw n.val 4 n.isLt (start + 1)
      (by rwa [portAfter_val]) fun m hm => ?_
    · rw [rotate_advances 4 hnot, hsearch, portAfter_val]
    · have hport := hbefore ⟨m, Nat.lt_trans hm n.isLt⟩ hm
      rwa [← portAfter_val] at hport

end

section
/-! SUPPORT. The fields of the records of line requests, read back (R193). -/

namespace Sys2Proof.Machine

open Sys2Proof

/-- The bits of word 1 of a line request: count, first point, address (R193). -/
theorem lineWord_getLsbD (a : Byte) (first : Half) (count : Byte) (j : Nat) : (lineWord a first count).getLsbD j
    = if j < 8 then count.getLsbD j else if j - 8 < 16 then first.getLsbD (j - 8) else a.getLsbD (j - 24) := by
  have hword : (lineWord a first count).getLsbD j = @BitVec.getLsbD (8 + 16 + 8) (a ++ first ++ count) j := rfl
  rw [hword, BitVec.getLsbD_append, BitVec.getLsbD_append, Nat.sub_sub]

/-- The bits of a header word, from the length up (R193). -/
theorem headerWord_getLsbD (kind : BitVec 4) (h : Header) (j : Nat) : (headerWord kind h).getLsbD j
    = if j < 8 then h.length.getLsbD j else if j - 8 < 8 then h.tag.getLsbD (j - 8)
      else if j - 16 < 1 then (BitVec.ofBool h.watch).getLsbD (j - 16)
      else if j - 17 < 1 then (BitVec.ofBool h.notify).getLsbD (j - 17)
      else if j - 18 < 1 then (BitVec.ofBool h.quiet).getLsbD (j - 18)
      else if j - 19 < 1 then (0 : BitVec 1).getLsbD (j - 19)
      else if j - 20 < 2 then (BitVec.ofNat 2 h.slot.val).getLsbD (j - 20)
      else if j - 22 < 6 then (0 : BitVec 6).getLsbD (j - 22) else kind.getLsbD (j - 28) := by
  have hword : (headerWord kind h).getLsbD j = @BitVec.getLsbD (4 + 6 + 2 + 1 + 1 + 1 + 1 + 8 + 8)
    (kind ++ (0 : BitVec 6) ++ (BitVec.ofNat 2 h.slot.val) ++ (0 : BitVec 1) ++ BitVec.ofBool h.quiet
    ++ BitVec.ofBool h.notify ++ BitVec.ofBool h.watch ++ h.tag ++ h.length) j := rfl
  rw [hword]
  iterate 8 rw [BitVec.getLsbD_append]
  simp only [Nat.sub_sub, Nat.reduceAdd]

section

variable (a : Byte) (first : Half) (count : Byte) (header : Word) (values : List Word)

@[simp] theorem Request.top_lineWord : Request.top ⟨header, lineWord a first count :: values⟩ = a := by
  refine BitVec.eq_of_getLsbD_eq fun i hi => ?_
  show (BitVec.extractLsb' 24 8 (lineWord a first count)).getLsbD i = _
  rw [BitVec.getLsbD_extractLsb', lineWord_getLsbD, if_neg (by omega), if_neg (by omega), Nat.add_sub_cancel_left,
    decide_eq_true hi, Bool.true_and]

@[simp] theorem Request.first_lineWord : Request.first ⟨header, lineWord a first count :: values⟩ = first := by
  refine BitVec.eq_of_getLsbD_eq fun i hi => ?_
  show (BitVec.extractLsb' 8 16 (lineWord a first count)).getLsbD i = _
  rw [BitVec.getLsbD_extractLsb', lineWord_getLsbD, if_neg (by omega), if_pos (by omega), Nat.add_sub_cancel_left,
    decide_eq_true hi, Bool.true_and]

@[simp] theorem Request.count_lineWord : Request.count ⟨header, lineWord a first count :: values⟩ = count := by
  refine BitVec.eq_of_getLsbD_eq fun i hi => ?_
  show (BitVec.extractLsb' 0 8 (lineWord a first count)).getLsbD i = _
  rw [BitVec.getLsbD_extractLsb', lineWord_getLsbD, Nat.zero_add, if_pos hi, decide_eq_true hi, Bool.true_and]

end

section

variable (kind : BitVec 4) (h : Header) (body : List Word)

@[simp] theorem Request.kind_headerWord : Request.kind ⟨headerWord kind h, body⟩ = kind := by
  refine BitVec.eq_of_getLsbD_eq fun i hi => ?_
  show (BitVec.extractLsb' 28 4 (headerWord kind h)).getLsbD i = _
  rw [BitVec.getLsbD_extractLsb', headerWord_getLsbD]
  iterate 8 rw [if_neg (by omega)]
  rw [Nat.add_sub_cancel_left, decide_eq_true hi, Bool.true_and]

@[simp] theorem Request.watch_headerWord : Request.watch ⟨headerWord kind h, body⟩ = h.watch := by
  show (headerWord kind h).getLsbD 16 = _
  rw [headerWord_getLsbD]
  simp

@[simp] theorem Request.slot_headerWord : Request.slot ⟨headerWord kind h, body⟩ = h.slot := by
  have hbits : BitVec.extractLsb' 20 2 (headerWord kind h) = BitVec.ofNat 2 h.slot.val := by
    refine BitVec.eq_of_getLsbD_eq fun i hi => ?_
    rw [BitVec.getLsbD_extractLsb', headerWord_getLsbD]
    iterate 6 rw [if_neg (by omega)]
    rw [if_pos (by omega), Nat.add_sub_cancel_left, decide_eq_true hi, Bool.true_and]
  show (BitVec.extractLsb' 20 2 (headerWord kind h)).toFin = _
  rw [hbits]
  exact Fin.ext (Nat.mod_eq_of_lt h.slot.isLt)

/-- A header whose length byte is 2 calls for two words (R144). -/
theorem takenLength_headerWord_two (hlength : h.length = 2#8) : takenLength (headerWord kind h) = 2 := by
  have hbyte : BitVec.extractLsb' 0 8 (headerWord kind h) = 2#8 := by
    rw [← hlength]
    refine BitVec.eq_of_getLsbD_eq fun i hi => ?_
    rw [BitVec.getLsbD_extractLsb', headerWord_getLsbD, Nat.zero_add, if_pos hi, decide_eq_true hi, Bool.true_and]
  unfold takenLength
  rw [hbyte]
  rfl

end

end Sys2Proof.Machine
end

section
/-! SUPPORT. A line request that is submitted: how it is queued, when its port is eligible, and what the choice that
follows does where it is the one request there is (R87-R90, R143, R145). -/

namespace Sys2Proof.Machine

open Sys2Proof

/-! ### Submission (R143, R145; log 6) -/

/-- A request row is the submission of its record (log 6). -/
theorem exec_of_record (i : Instr) (s : State) {p : Port} {words : List Word} (h : i.record = some (p, words)) :
    exec i s = .next (s.submitWords p words) := by
  cases i with
  | read | write | cwrite | attach | detach | release | filterMode | filterListAdd | filterListRemove | filterHashSet
  | filterHashClear | filterClearAll | wakeset | queryStation | queryChanges | queryWatches | queryLine | mark
  | unassignedKind => cases h; rfl
  | powerOnReset | loadStart | loadEnd | warmRestart | warmRestartEnd | channelOperation | transactionEnd | submitWord
  | takeCompletion | takeReport | statusRead | openPort | doze | wakeup | close | clear | mask | force
  | invalidControlOperation | transmitStart | sendComplete | characterReceived | frameConfirmation | replyTimerExpiry
  | retryGapEnd | holdoffExpiry | tick | pollTick | reprobeDue | watchExpired | transactionBegin | lineReturnsHigh =>
    cases h

/-- A well-formed row carries one whole record. -/
theorem Instr.wholeRecord_of_wf {i : Instr} {p : Port} {words : List Word} (h : i.record = some (p, words))
    (hwf : i.wf = true) : wholeRecord words = true := by
  unfold Instr.wf at hwf
  rw [h, Bool.and_eq_true] at hwf
  exact hwf.2

/-- The Port Unit that has taken a request into its queue, zeros sent on its words (R142, R145). -/
def PortUnit.queueing (u : PortUnit) (r : Request) : PortUnit :=
  { u with
    queue := u.queue ++ [r]
    credits := u.credits - 1
    link := { u.link with sent := some 0 } }

/-- The one request of a port starts (R90). -/
theorem PortUnit.takeHead_queueing (u : PortUnit) (r : Request) (hqueue : u.queue = []) (hmark : u.headMark = .none) :
    (u.queueing r).takeHead = u.lineStarted r := by
  cases u
  cases hqueue
  cases hmark
  rfl

/-- The one request of a port ends with a record (R89). -/
theorem PortUnit.endHead_queueing (u : PortUnit) (r : Request) (c : Completion) (hqueue : u.queue = [])
    (hmark : u.headMark = .none) : (u.queueing r).endHead c = u.localDone c := by
  cases u
  cases hqueue
  cases hmark
  rfl

/-- The request has joined the tail of the queue, and nothing more. -/
def State.queueing (s : State) (p : Port) (r : Request) : State := s.updPort p (·.queueing r)

/-- The record of a request that the port accepts joins the queue; a line request that becomes the head calls for a
choice (R79, R145). -/
theorem State.submitWords_queueing (s : State) {p : Port} {header : Word} {body : List Word} (hsubmit : s.Submitting p)
    (haccept : s.Accepting p) (hwhole : wholeRecord (header :: body) = true) :
    s.submitWords p (header :: body)
      = (s.queueing p ⟨header, body⟩).settle ((s.port p).queue.isEmpty && Request.isLine ⟨header, body⟩) := by
  have hport : (s.send p 0).port p = { s.port p with link := { (s.port p).link with sent := some 0 } } :=
    s.updPort_port_same p _
  have hcommit : (s.send p 0).commit p ⟨header, body⟩
      = (s.queueing p ⟨header, body⟩, (s.port p).queue.isEmpty && Request.isLine ⟨header, body⟩) := by
    simp only [State.commit, hport, haccept.admits, haccept.credit, Bool.true_eq_false, if_false]
    refine congrArg (·, _) ?_
    rw [State.send, State.updPort, State.setPort, State.setPort, Quad.set_set]
    rfl
  rw [s.submitWords_record p header body hsubmit.acts hsubmit.fresh (by simpa [wholeRecord] using hwhole), hcommit]

theorem State.queueing_port_same (s : State) (p : Port) (r : Request) :
    (s.queueing p r).port p = (s.port p).queueing r := s.updPort_port_same p _

theorem State.queueing_port_ne (s : State) {p q : Port} (h : q ≠ p) (r : Request) :
    (s.queueing p r).port q = s.port q := s.updPort_port_ne h _

/-- Ports at whose heads no local request stands have nothing ready (R147). -/
theorem State.localReady_of_line (s : State) {p : Port} {r : Request} {rest : List Request}
    (hqueue : (s.port p).queue = r :: rest) (hline : r.isLine = true) : s.localReady p = false := by
  simp [State.localReady, hqueue, hline]

/-- A line request that joins a queue makes no local request ready (R147). -/
theorem State.Quiet.queueing {s : State} (h : s.Quiet) (p : Port) {r : Request} (hline : r.isLine = true) :
    (s.queueing p r).Quiet := by
  intro q
  by_cases hq : q = p
  · subst hq
    have hport := s.queueing_port_same q r
    cases hqueue : (s.port q).queue with
    | nil => exact State.localReady_of_line _ (rest := []) (by simp [hport, PortUnit.queueing, hqueue]) hline
    | cons head rest =>
      have hready := h q
      simp only [State.localReady, hqueue] at hready
      simp only [State.localReady, hport, PortUnit.queueing, hqueue, List.cons_append]
      exact hready
  · exact (State.localReady_congr (s := s) (t := s.queueing p r) rfl (s.queueing_port_ne hq r)).trans (h q)

/-! ### Eligibility (R87) -/

/-- The head is a line request, and does not name a station in PROBING (R87). -/
theorem State.eligible_iff (s : State) {p : Port} {r : Request} {rest : List Request}
    (hqueue : (s.port p).queue = r :: rest) :
    s.eligible p = true ↔ r.isLine = true ∧ ∀ e, s.entryOf r.top = some e → e.state ≠ .probing := by
  simp only [State.eligible, hqueue, Bool.and_eq_true]
  refine and_congr_right fun _ => ?_
  cases s.entryOf r.top <;> simp

/-! ### The one port that is eligible is served (R88) -/

/-- Where one port alone is eligible the search finds it; its u is kept only when the turn was its own and has not run
out (R88). -/
theorem rotate_only {eligible : Port → Bool} {weight : Port → Nat} (hw : ∀ q, 1 ≤ weight q) {p : Port}
    (hp : eligible p = true) (hothers : ∀ q, q ≠ p → eligible q = false) (start : Port) (u : Nat) :
    rotate eligible weight 5 start u = some (p, if start = p ∧ u < weight p then u else 0) := by
  by_cases hstay : start = p ∧ u < weight p
  · obtain ⟨rfl, hu⟩ := hstay
    rw [rotate_stays 4 hp hu, if_pos ⟨rfl, hu⟩]
  · have hnot : ¬ (eligible start = true ∧ u < weight start) := by
      rintro ⟨hstart, hu⟩
      have hsame : start = p := by
        by_contra hne
        rw [hothers start hne] at hstart
        cases hstart
      exact hstay ⟨hsame, hsame ▸ hu⟩
    have hport : portAfter (start + 1) (p - (start + 1)).val = p := by
      rw [portAfter_val, add_sub_cancel]
    rw [rotate_advances 4 hnot, if_neg hstay]
    rw [rotate_first (eligible := eligible) hw (p - (start + 1)).val 4 (p - (start + 1)).isLt (start + 1)
      (by rw [hport]; exact hp) fun m hm => hothers _ fun heq => ?_, hport]
    obtain ⟨m, rfl⟩ : ∃ m' : Port, m'.val = m := ⟨⟨m, Nat.lt_trans hm (p - (start + 1)).isLt⟩, rfl⟩
    rw [← heq, portAfter_val, add_sub_cancel_left] at hm
    exact Nat.lt_irrefl _ hm

/-! ### The one request there is (R79, R80) -/

theorem State.Submitting.running {s : State} {p : Port} (h : s.Submitting p) : s.run = .running :=
  ((s.acts_submit_iff p).mp h.acts).2.2.2

/-- The u with which port p is served (R88). -/
def State.turnUsed (s : State) (p : Port) : Nat :=
  if s.arbiter.pointer = p ∧ s.arbiter.used < s.loader.params.weights.get p then s.arbiter.used else 0

/-- The request stands at the head, and its port has been found by the rotation (R88). -/
def State.atTurn (s : State) (p : Port) (r : Request) : State :=
  { s.queueing p r with arbiter := { s.arbiter with pointer := p, used := s.turnUsed p } }

/-- The start checks read the table alone (R149). -/
@[simp] theorem State.atTurn_startCheck (s : State) (p : Port) (r : Request) :
    (s.atTurn p r).startCheck p r = s.startCheck p r := rfl

/-- From s to t nothing changed but the watches. -/
def OnlyWatches (s t : State) : Prop := { t with watches := s.watches } = s

/-- The start checks change nothing but the slot that a CWRITE names (R112, R114). -/
theorem State.checkHead_watches (s : State) (p : Port) (r : Request) : OnlyWatches s (s.checkHead p r).1 := by
  unfold State.checkHead
  split
  · rfl
  · split
    · simp only [State.watchCheck]
      split
      · rfl
      · split <;> rfl
    · rfl

/-- The request whose start checks fail ends with a completion record, and a new choice is called for (R89). -/
theorem State.choosePort_fails (s t : State) {p : Port} {u : Nat} {r : Request} {rest : List Request} {status : Status}
    {detail : BitVec 4} (hfound : rotate s.eligible s.loader.params.weights.get 5 s.arbiter.pointer s.arbiter.used = some (p, u))
    (hqueue : (s.port p).queue = r :: rest)
    (hcheck : ({ s with arbiter := { s.arbiter with pointer := p, used := u } } : State).checkHead p r
      = (t, some (status, detail))) :
    s.choosePort = (t.updPort p (·.endHead (completionOf r status detail 0 [])), true) := by
  have hqueue' : (({ s with arbiter := { s.arbiter with pointer := p, used := u } } : State).port p).queue = r :: rest :=
    hqueue
  simp only [State.choosePort, hfound, hqueue', hcheck]

/-- The request that passes its start checks starts (R90, R91). -/
theorem State.choosePort_starts (s t : State) {p : Port} {u : Nat} {r : Request} {rest : List Request}
    (hfound : rotate s.eligible s.loader.params.weights.get 5 s.arbiter.pointer s.arbiter.used = some (p, u))
    (hqueue : (s.port p).queue = r :: rest)
    (hcheck : ({ s with arbiter := { s.arbiter with pointer := p, used := u } } : State).checkHead p r = (t, none)) :
    s.choosePort = (t.startHead p r, false) := by
  have hqueue' : (({ s with arbiter := { s.arbiter with pointer := p, used := u } } : State).port p).queue = r :: rest :=
    hqueue
  simp only [State.choosePort, hfound, hqueue', hcheck]

/-- Of the four ports one is p. -/
theorem portCount_single (p : Port) :
    (if 0 = p then 1 else 0) + (if 1 = p then 1 else 0) + (if 2 = p then 1 else 0) + (if 3 = p then 1 else 0) = 1 := by
  revert p
  decide

section

variable {s : State} {p : Port} (h : s.LineTurn p) {r : Request}

include h

theorem State.LineTurn.quiet : s.Quiet := fun q => s.localReady_of_empty q (h.alone q)

/-- The request is the one in its port's queue. -/
theorem State.LineTurn.queueing_queue : ((s.queueing p r).port p).queue = [r] := by
  rw [s.queueing_port_same, PortUnit.queueing, h.alone p, List.nil_append]

/-- The Port Unit with the request as its head. -/
theorem State.LineTurn.queueing_port : (s.port p).queueing r = { s.port p with
    queue := [r], credits := (s.port p).credits - 1, link := { (s.port p).link with sent := some 0 } } := by
  rw [PortUnit.queueing, h.alone p, List.nil_append]

theorem State.LineTurn.queueing_others {q : Port} (hq : q ≠ p) : ((s.queueing p r).port q).queue = [] := by
  rw [s.queueing_port_ne hq]
  exact h.alone q

/-- The choice falls to the ports (R80). -/
theorem State.LineTurn.chooseOnce : (s.queueing p r).chooseOnce = (s.queueing p r).choosePort := by
  have hlist : (s.queueing p r).arbiter.serviceList = [] := h.service
  have hx : (s.queueing p r).exchange = none := h.idle
  simp only [State.chooseOnce, hlist, (s.queueing p r).walkCursor_closed _ h.cycle, hx]

theorem State.LineTurn.choice : (s.queueing p r).choice = State.chooseAll 2 (s.queueing p r) := by
  have hqueued : (s.queueing p r).queued = 1 := by
    have hlength : ∀ q, ((s.queueing p r).port q).queue.length = if q = p then 1 else 0 := by
      intro q
      split
      next hq => rw [hq, h.queueing_queue]; rfl
      next hq => rw [h.queueing_others hq]; rfl
    rw [State.queued, hlength, hlength, hlength, hlength]
    exact portCount_single p
  have hready : (s.queueing p r).exchange = none ∧ (s.queueing p r).run = .running := ⟨h.idle, h.submitting.running⟩
  rw [State.choice, if_pos hready, hqueued]

/-- The record of the request submitted, and the choice that follows, where the choice makes nothing ready. -/
theorem State.LineTurn.submit {header : Word} {body : List Word} (hline : Request.isLine ⟨header, body⟩ = true)
    (hwhole : wholeRecord (header :: body) = true) {t : State} (ht : (s.queueing p ⟨header, body⟩).choice = t)
    (hquiet : t.Quiet) : s.submitWords p (header :: body) = t := by
  rw [s.submitWords_queueing h.submitting h.accepting hwhole, h.alone p, hline]
  show (s.queueing p ⟨header, body⟩).settle true = t
  rw [State.settle_choice _ (h.quiet.queueing p hline) h.idle (by rw [ht]; exact hquiet), ht]

/-- A request that names a station in PROBING is not eligible: no port is, and nothing starts (R87). -/
theorem State.LineTurn.choice_waits {e : Entry} (he : s.entryOf r.top = some e) (hprobing : e.state = .probing) :
    (s.queueing p r).choice = s.queueing p r := by
  have hnone : ∀ q, (s.queueing p r).eligible q = false := by
    intro q
    by_cases hq : q = p
    · subst hq
      rw [← Bool.not_eq_true, State.eligible_iff _ (rest := []) h.queueing_queue]
      exact fun helig => helig.2 e he hprobing
    · exact State.eligible_of_empty _ q (h.queueing_others hq)
  rw [h.choice, State.chooseAll, h.chooseOnce, State.choosePort_none _ hnone]

/-- The rotation finds the one request there is (R88). -/
theorem State.LineTurn.found (hline : r.isLine = true) (hentry : ∀ e, s.entryOf r.top = some e → e.state ≠ .probing) :
    rotate (s.queueing p r).eligible (s.queueing p r).loader.params.weights.get 5
      (s.queueing p r).arbiter.pointer (s.queueing p r).arbiter.used = some (p, s.turnUsed p) :=
  rotate_only h.weight ((State.eligible_iff _ (rest := []) h.queueing_queue).mpr ⟨hline, hentry⟩)
    (fun q hq => State.eligible_of_empty _ q (h.queueing_others hq)) _ _

/-- A request that fails a start check completes, and the new choice finds nothing (R89). -/
theorem State.LineTurn.choice_fails (hline : r.isLine = true)
    (hentry : ∀ e, s.entryOf r.top = some e → e.state ≠ .probing) {t : State} {status : Status} {detail : BitVec 4}
    (hcheck : (s.atTurn p r).checkHead p r = (t, some (status, detail))) :
    (s.queueing p r).choice = t.updPort p (·.endHead (completionOf r status detail 0 []))
      ∧ ∀ q, ((t.updPort p (·.endHead (completionOf r status detail 0 []))).port q).queue = [] := by
  have honly := (s.atTurn p r).checkHead_watches p r
  rw [hcheck] at honly
  have hports : t.ports = (s.queueing p r).ports := (congrArg State.ports honly :)
  have harbiter : t.arbiter = (s.atTurn p r).arbiter := (congrArg State.arbiter honly :)
  have hx : t.exchange = s.exchange := (congrArg State.exchange honly :)
  have hport : ∀ q, t.port q = (s.queueing p r).port q := fun q => congrArg (Quad.get · q) hports
  have hqueues : ∀ q, ((t.updPort p (·.endHead (completionOf r status detail 0 []))).port q).queue = [] := by
    intro q
    by_cases hq : q = p
    · subst hq
      rw [State.updPort_port_same, PortUnit.endHead, hport, h.queueing_queue]
    · rw [State.updPort_port_ne _ hq, hport]
      exact h.queueing_others hq
  have hnothing : (t.updPort p (·.endHead (completionOf r status detail 0 []))).NothingWaits :=
    ⟨hqueues, (congrArg Arbiter.serviceList harbiter).trans h.service, (congrArg Arbiter.cycleOpen harbiter).trans h.cycle⟩
  refine ⟨?_, hqueues⟩
  rw [h.choice, State.chooseAll, h.chooseOnce,
    State.choosePort_fails _ t (h.found hline hentry) (rest := []) h.queueing_queue hcheck]
  show State.chooseAll 1 (t.updPort p (·.endHead (completionOf r status detail 0 []))) = _
  rw [State.chooseAll, State.chooseOnce_of_nothingWaits _ hnothing (hx.trans h.idle)]

/-- A request that passes its start checks starts (R90, R91). -/
theorem State.LineTurn.choice_starts (hline : r.isLine = true)
    (hentry : ∀ e, s.entryOf r.top = some e → e.state ≠ .probing) {t : State}
    (hcheck : (s.atTurn p r).checkHead p r = (t, none)) : (s.queueing p r).choice = t.startHead p r := by
  rw [h.choice, State.chooseAll, h.chooseOnce,
    State.choosePort_starts _ t (h.found hline hentry) (rest := []) h.queueing_queue hcheck]

end

end Sys2Proof.Machine
end

section
/-! CLAIM. Line requests that fail a start check or wait. -/

open Sys2Proof Sys2Proof.Machine

/-- Settles O21: the request that fails a start check completes where it is the one there is; one that is not eligible,
or meets an exchange in flight, stays queued. -/
theorem failedStartCheckCompletesTheRequest : Obligations.FailedStartCheckCompletesTheRequest := by
  refine ⟨?fails, ?waits, fun s p r rest hqueue => s.eligible_iff hqueue⟩
  case fails =>
    intro s p i header body status hrecord hwf hline h hstatus hentry
    have hcheck : (s.atTurn p ⟨header, body⟩).checkHead p ⟨header, body⟩
        = (s.atTurn p ⟨header, body⟩, some (status, 0)) := by
      rw [State.checkHead, State.atTurn_startCheck, hstatus]
    obtain ⟨hchoice, hqueues⟩ := h.choice_fails hline hentry hcheck
    have hsubmit := h.submit hline (Instr.wholeRecord_of_wf hrecord hwf) hchoice
      fun q => State.localReady_of_empty _ q (hqueues q)
    refine ⟨_, completionOf ⟨header, body⟩ status 0 0 [], (exec_of_record i s hrecord).trans (congrArg _ hsubmit), ?_,
      fun q hq => (State.updPort_port_ne _ hq _).trans (s.queueing_port_ne hq _), rfl, rfl, rfl, rfl, rfl, ?_, ?_, ?_,
      rfl, h.idle, rfl, rfl, rfl, rfl, rfl, rfl⟩
    · have hport : (s.atTurn p ⟨header, body⟩).port p = (s.port p).queueing ⟨header, body⟩ :=
        s.queueing_port_same p _
      rw [State.updPort_port_same, hport, PortUnit.endHead_queueing _ _ _ h.unoccupied.queue h.unoccupied.mark]
    · simp [completionOf, Request.station, hline]
    · simp [completionOf, hline]
    · simp [completionOf, hline]
  case waits =>
    rintro s p i header body hrecord hwf hline (⟨h, e, he, hprobing⟩ | ⟨hsubmit, haccept, hquiet, hbusy⟩)
    all_goals
      have hwhole := Instr.wholeRecord_of_wf hrecord hwf
      have hqueued : (s.send p 0).updPort p (fun u =>
          { u with queue := u.queue ++ [⟨header, body⟩], credits := u.credits - 1 }) = s.queueing p ⟨header, body⟩ := by
        rw [State.send, State.updPort_updPort]
        rfl
      rw [exec_of_record i s hrecord, hqueued]
    · rw [h.submit hline hwhole (h.choice_waits he hprobing) (h.quiet.queueing p hline)]
    · rw [s.submitWords_queueing hsubmit haccept hwhole,
        State.settle_of_quiet _ _ (hquiet.queueing p hline) (.inr hbusy)]

end

section
/-! SUPPORT. The starts of the requests of a port (R90, R91), from the queue to the record. -/

namespace Sys2Proof.Machine

open Sys2Proof

/-- The address found in slot k is the entry's there (R27). -/
theorem State.entryOf_of_slotOf (s : State) {a : Byte} {k : Nat} (h : s.slotOf a = some k) : s.entryOf a = s.entry k := by
  rw [State.entryOf, h]

/-- A READ that stands at the head starts its exchange (R90). -/
theorem State.startHead_read (s : State) {p : Port} {r : Request} {k : Nat} (hread : r.isRead = true)
    (hslot : s.slotOf r.top = some k) : s.startHead p r = s.startRequest p r (readExchange p r k) := by
  obtain ⟨e, he, -⟩ := s.slotOf_spec hslot
  have hbroadcast : r.isBroadcast = false := by rw [Request.isBroadcast, Request.isWrite_of_isRead hread, Bool.false_and]
  simp [State.startHead, hbroadcast, hslot, he, hread]

theorem State.startHead_broadcast (s : State) {p : Port} {r : Request} (hbroadcast : r.isBroadcast = true) :
    s.startHead p r = s.startRequest p r (broadcastExchange p r) := if_pos hbroadcast

/-- A WRITE or CWRITE to a station starts with the entry's toggle where that is known (R90). -/
theorem State.startHead_write (s : State) {p : Port} {r : Request} {k : Nat} {e : Entry} {t : Bool}
    (hread : r.isRead = false) (hbroadcast : r.isBroadcast = false) (hslot : s.slotOf r.top = some k)
    (he : s.entry k = some e) (htoggle : e.toggle = some t) :
    s.startHead p r = s.startRequest p r (writeExchange p r k t) := by
  simp [State.startHead, hbroadcast, hslot, he, hread, htoggle]

/-- With the toggle UNKNOWN it is paired with a resync PING (R91). -/
theorem State.startHead_pair (s : State) {p : Port} {r : Request} {k : Nat} {e : Entry} (hread : r.isRead = false)
    (hbroadcast : r.isBroadcast = false) (hslot : s.slotOf r.top = some k) (he : s.entry k = some e)
    (htoggle : e.toggle = none) : s.startHead p r = s.pair p k e := by
  simp [State.startHead, hbroadcast, hslot, he, hread, htoggle]

/-- A request that is no CWRITE and passes the start checks of R149 passes them all. -/
theorem State.checkHead_passes (s : State) {p : Port} {r : Request} (hcheck : s.startCheck p r = none)
    (hcwrite : r.isCwrite = false) : s.checkHead p r = (s, none) := by
  simp [State.checkHead, hcheck, hcwrite]

theorem State.startRequest_port_same (s : State) (p : Port) (r : Request) (x : Exchange) :
    (s.startRequest p r x).port p = (s.port p).takeHead := by
  simp only [State.startRequest]
  split <;> exact State.updPort_port_same _ p _

theorem State.startRequest_port_ne (s : State) {p q : Port} (hq : q ≠ p) (r : Request) (x : Exchange) :
    (s.startRequest p r x).port q = s.port q := by
  simp only [State.startRequest]
  split <;> exact State.updPort_port_ne _ hq _

/-- The start of a request changes its port, the Arbiter, the record and the line, and the slot that a watched READ
names (R90, R101). -/
theorem State.startRequest_rest (s : State) (p : Port) (r : Request) (x : Exchange) :
    { s.startRequest p r x with
      ports := s.ports, watches := s.watches, arbiter := s.arbiter, exchange := s.exchange, line := s.line } = s := by
  simp only [State.startRequest]
  split <;> rfl

theorem State.startRequest_line (s : State) (p : Port) (r : Request) (x : Exchange) :
    (s.startRequest p r x).line = s.line.give x.frame := by
  simp only [State.startRequest]
  split <;> rfl

theorem State.startRequest_arbiter (s : State) (p : Port) (r : Request) (x : Exchange) :
    (s.startRequest p r x).arbiter = { s.arbiter with used := s.arbiter.used + 1, pairing := none } := by
  simp only [State.startRequest]
  split <;> rfl

theorem State.startRequest_watch (s : State) (p : Port) (r : Request) (x : Exchange) (q : Port) (j : WatchNo) :
    (s.startRequest p r x).watch q j
      = if r.isWatchedRead = true ∧ q = p ∧ j = r.slot then Watch.emptySlot else s.watch q j := by
  simp only [State.startRequest]
  split
  next hwatched =>
    simp only [hwatched, true_and]
    exact s.setWatch_watch p q r.slot j _
  next hwatched =>
    rw [if_neg fun h => hwatched h.1]
    rfl

theorem State.startRequest_watches (s : State) (p : Port) {r : Request} (h : r.isWatchedRead = false) (x : Exchange) :
    (s.startRequest p r x).watches = s.watches := by
  simp only [State.startRequest, h]
  rfl

/-- From s to t the request r of port p was submitted and served, and its exchange x has started (R90). -/
structure RequestStarted (s t : State) (p : Port) (r : Request) (x : Exchange) : Prop where
  port : t.port p = (s.port p).lineStarted r
  others : OnlyPort s t p
  exchange : t.exchange = some x
  line : t.line = s.line.give x.frame
  turn : TurnUsed s t p
  watch : ∀ q j, t.watch q j = if r.isWatchedRead = true ∧ q = p ∧ j = r.slot then Watch.emptySlot else s.watch q j
  watches : r.isWatchedRead = false → t.watches = s.watches
  pairing : t.arbiter.pairing = none
  rest : { t with
    ports := s.ports, watches := s.watches, arbiter := s.arbiter, exchange := s.exchange, line := s.line } = s

section

variable {s : State} {p : Port} (h : s.LineTurn p) {header : Word} {body : List Word}

include h

/-- What stands when the one request there is has started. -/
theorem State.LineTurn.started (r : Request) (x : Exchange) :
    RequestStarted s ((s.atTurn p r).startRequest p r x) p r x where
  port := by
    have hport : (s.atTurn p r).port p = (s.port p).queueing r := s.queueing_port_same p r
    rw [State.startRequest_port_same, hport, PortUnit.takeHead_queueing _ r h.unoccupied.queue h.unoccupied.mark]
  others q hq := (State.startRequest_port_ne _ hq r x).trans (s.queueing_port_ne hq r)
  exchange := rfl
  line := State.startRequest_line _ p r x
  turn := by
    have harbiter := State.startRequest_arbiter (s.atTurn p r) p r x
    exact ⟨by rw [harbiter]; rfl, by rw [harbiter]; rfl, by rw [harbiter]; rfl⟩
  watch := State.startRequest_watch _ p r x
  watches hwatched := State.startRequest_watches _ p hwatched x
  pairing := by rw [State.startRequest_arbiter]
  rest := by
    have hrest := State.startRequest_rest (s.atTurn p r) p r x
    calc _ = { ({ (s.atTurn p r).startRequest p r x with
              ports := (s.atTurn p r).ports, watches := (s.atTurn p r).watches, arbiter := (s.atTurn p r).arbiter
              exchange := (s.atTurn p r).exchange, line := (s.atTurn p r).line } : State) with
            ports := s.ports, arbiter := s.arbiter } := rfl
      _ = { s.atTurn p r with ports := s.ports, arbiter := s.arbiter } := by rw [hrest]
      _ = s := rfl

/-- The one request there is passes its start checks, and its exchange starts in the change that submits it. -/
theorem State.LineTurn.submit_started {x : Exchange} (hwhole : wholeRecord (header :: body) = true)
    (hline : Request.isLine ⟨header, body⟩ = true)
    (hentry : ∀ e, s.entryOf (Request.top ⟨header, body⟩) = some e → e.state ≠ .probing)
    (hcheck : s.startCheck p ⟨header, body⟩ = none) (hcwrite : Request.isCwrite ⟨header, body⟩ = false)
    (hstart : (s.atTurn p ⟨header, body⟩).startHead p ⟨header, body⟩
      = (s.atTurn p ⟨header, body⟩).startRequest p ⟨header, body⟩ x) :
    ∃ t, s.submitWords p (header :: body) = t ∧ RequestStarted s t p ⟨header, body⟩ x := by
  have hstarted := h.started ⟨header, body⟩ x
  have hchoice := (h.choice_starts hline hentry (State.checkHead_passes _ hcheck hcwrite)).trans hstart
  refine ⟨_, h.submit hline hwhole hchoice fun q => State.localReady_of_empty _ q ?_, hstarted⟩
  by_cases hq : q = p
  · subst hq
    rw [hstarted.port, PortUnit.lineStarted]
    exact h.alone q
  · rw [hstarted.others q hq]
    exact h.alone q

end

end Sys2Proof.Machine
end

section
/-! CLAIM. READ. -/

open Sys2Proof Sys2Proof.Machine

/-- Settles O22: the READ is the one request there is, and starts with the fields of its record. -/
theorem readStartsItsExchange : Obligations.ReadStartsItsExchange := by
  intro s p h a first count k hlength hturn hslot hcheck hentry
  have hread : Request.isRead ⟨headerWord 1#4 h, [lineWord a first count]⟩ = true := by
    rw [Request.isRead, Request.kind_headerWord]; rfl
  have hline : Request.isLine ⟨headerWord 1#4 h, [lineWord a first count]⟩ = true := by
    rw [Request.isLine, Request.kind_headerWord]; rfl
  have hcwrite : Request.isCwrite ⟨headerWord 1#4 h, [lineWord a first count]⟩ = false := by
    rw [Request.isCwrite, Request.kind_headerWord]; rfl
  have hwatched : Request.isWatchedRead ⟨headerWord 1#4 h, [lineWord a first count]⟩ = h.watch := by
    rw [Request.isWatchedRead, hread, Request.watch_headerWord, Bool.true_and]
  have hwhole : wholeRecord [headerWord 1#4 h, lineWord a first count] = true := by
    rw [wholeRecord, takenLength_headerWord_two _ _ hlength]; rfl
  obtain ⟨t, hexec, ht⟩ := hturn.submit_started hwhole hline (by rwa [Request.top_lineWord]) hcheck hcwrite
    (State.startHead_read _ hread (by rw [Request.top_lineWord]; exact hslot))
  refine ⟨t, _, congrArg _ hexec, ht.port, ht.others, ht.exchange, rfl, rfl, rfl, rfl, Request.top_lineWord .., ?_, rfl,
    rfl, Request.first_lineWord .., ?_, ?_, rfl, rfl, rfl, ht.line, ht.turn, fun q j => ?_, ht.pairing, ht.rest⟩
  · simp [readExchange]
  · simp [readExchange]
  · simp [readExchange]
  · rw [ht.watch, hwatched, Request.slot_headerWord]

end

section
/-! SUPPORT. The resync pairing of the one request there is (R91). -/

namespace Sys2Proof.Machine

open Sys2Proof

/-- The Port Unit whose head is paired. -/
theorem State.pair_port_same (s : State) (p : Port) (k : Nat) (e : Entry) :
    (s.pair p k e).port p = { s.port p with headMark := .paired } :=
  s.updPort_port_same p ({ · with headMark := .paired })

theorem State.pair_port_ne (s : State) {p q : Port} (hq : q ≠ p) (k : Nat) (e : Entry) :
    (s.pair p k e).port q = s.port q := s.updPort_port_ne hq ({ · with headMark := .paired })

section

variable {s : State} {p : Port} (h : s.LineTurn p) {header : Word} {body : List Word} {k : Nat} {e : Entry}

include h

/-- The one request there is passes its start checks and waits, PAIRED, on the resync PING that starts (R91). -/
theorem State.LineTurn.submit_paired (hwhole : wholeRecord (header :: body) = true)
    (hline : Request.isLine ⟨header, body⟩ = true)
    (hentry : ∀ e, s.entryOf (Request.top ⟨header, body⟩) = some e → e.state ≠ .probing)
    (hcheck : s.startCheck p ⟨header, body⟩ = none) (hcwrite : Request.isCwrite ⟨header, body⟩ = false)
    (hstart : (s.atTurn p ⟨header, body⟩).startHead p ⟨header, body⟩ = (s.atTurn p ⟨header, body⟩).pair p k e) :
    s.submitWords p (header :: body) = (s.atTurn p ⟨header, body⟩).pair p k e := by
  have hchoice := (h.choice_starts hline hentry (State.checkHead_passes _ hcheck hcwrite)).trans hstart
  refine h.submit hline hwhole hchoice fun q => ?_
  by_cases hq : q = p
  · subst hq
    refine State.localReady_of_line _ (rest := []) ?_ hline
    rw [State.pair_port_same]
    exact h.queueing_queue
  · refine State.localReady_of_empty _ q ?_
    rw [State.pair_port_ne _ hq]
    exact h.queueing_others hq

end

end Sys2Proof.Machine
end

section
/-! CLAIM. WRITE. -/

open Sys2Proof Sys2Proof.Machine

/-- Settles O23: the WRITE is the one request there is; it starts with the toggle of its entry, is paired where that is
UNKNOWN, and is broadcast to address 0. -/
theorem writesStartOrArePaired : Obligations.WritesStartOrArePaired := by
  have hkind : ∀ (h : Header) (a : Byte) (first : Half) (count : Byte) (values : List Word),
      let r : Request := ⟨headerWord 2#4 h, lineWord a first count :: values⟩
      r.isLine = true ∧ r.isWrite = true ∧ r.isRead = false ∧ r.isCwrite = false ∧ r.isWatchedRead = false
        ∧ (r.isBroadcast = true ↔ a = 0) := by
    intro h a first count values
    simp [Request.isLine, Request.isWrite, Request.isRead, Request.isCwrite, Request.isWatchedRead, Request.isBroadcast,
      reqRead, reqWrite, reqCwrite]
  refine ⟨?addressed, ?broadcast⟩
  case addressed =>
    intro s p h a first count values k e r hwhole hturn ha hslot he hstate hcheck
    obtain ⟨hline, hwrite, hread, hcwrite, hwatched, hbroadcast⟩ := hkind h a first count values
    have htop : r.top = a := Request.top_lineWord ..
    have hnot : r.isBroadcast = false := by
      rw [← Bool.not_eq_true, hbroadcast]
      exact ha
    have hslot' : (s.atTurn p r).slotOf r.top = some k := by
      rw [htop]
      exact hslot
    have hentry : ∀ f, s.entryOf r.top = some f → f.state ≠ .probing := by
      intro f hf
      rw [htop, s.entryOf_of_slotOf hslot, he] at hf
      cases hf
      exact hstate
    refine ⟨fun tog htoggle => ?_, fun htoggle => ?_⟩
    · obtain ⟨t, hexec, ht⟩ := hturn.submit_started hwhole hline hentry hcheck hcwrite
        (State.startHead_write _ hread hnot hslot' he htoggle)
      refine ⟨t, _, congrArg _ hexec, ht.port, ht.others, ht.exchange, rfl, if_neg ?_, rfl, htop, rfl, ?_, rfl, rfl,
        Request.first_lineWord .., ?_, ht.line, ht.turn, (congrArg State.table ht.rest :), ht.watches hwatched,
        (congrArg State.routing ht.rest :)⟩
      · rw [hcwrite]
        exact Bool.false_ne_true
      · simp [writeExchange, r]
      · simp [writeExchange, r]
    · have hexec := hturn.submit_paired hwhole hline hentry hcheck hcwrite
        (State.startHead_pair _ hread hnot hslot' he htoggle)
      refine ⟨_, pingExchange .resync k e, congrArg Host.Outcome.next hexec, ?_,
        fun q hq => (State.pair_port_ne _ hq k e).trans (s.queueing_port_ne hq r), rfl, rfl, rfl, rfl, rfl, rfl, rfl, rfl,
        rfl, rfl, rfl, rfl, rfl, rfl, rfl, rfl⟩
      have hport : (s.atTurn p r).port p = (s.port p).queueing r := s.queueing_port_same p r
      rw [State.pair_port_same, hport, hturn.queueing_port]
  case broadcast =>
    intro s p h first count values r hwhole hturn hbad hslot
    obtain ⟨hline, hwrite, hread, hcwrite, hwatched, hbroadcast⟩ := hkind h 0 first count values
    have htop : r.top = 0 := Request.top_lineWord ..
    have hall : r.isBroadcast = true := hbroadcast.mpr rfl
    have hentry : ∀ f, s.entryOf r.top = some f → f.state ≠ .probing := by
      intro f hf
      rw [htop, State.entryOf, hslot] at hf
      cases hf
    have hcheck : s.startCheck p r = none := by simp [State.startCheck, hbad, hall]
    obtain ⟨t, hexec, ht⟩ := hturn.submit_started hwhole hline hentry hcheck hcwrite (State.startHead_broadcast _ hall)
    refine ⟨t, _, congrArg _ hexec, ht.port, ht.others, ht.exchange, rfl, rfl, rfl, rfl, rfl, ?_, rfl, rfl, ht.line,
      ht.turn, (congrArg State.table ht.rest :), ht.watches hwatched, (congrArg State.routing ht.rest :)⟩
    simp [broadcastExchange, r]

end

section
/-! SUPPORT. The cursor walk of an open cycle (R84, R86): it starts a POLL at the first pollable slot, or closes the
cycle. -/

namespace Sys2Proof.Machine

open Sys2Proof

/-- An entry in slot n may be polled when the cursor comes to it: at the cursor's own slot the burst asks for the station
it began with (R84). -/
def Arbiter.PollableAt (a : Arbiter) (n : Nat) (e : Entry) : Prop :=
  (e.state = .online ∨ e.state = .suspect) ∧ e.capable = true
    ∧ (n = a.cursor → 0 < a.burstCount → a.burstAddress = some e.address)

/-- The cursor at slot n: the burst goes on at its own slot, and begins afresh past it (R85). -/
def Arbiter.atSlot (a : Arbiter) (n : Nat) : Arbiter :=
  if n = a.cursor then a else { a with cursor := n, burstCount := 0, burstAddress := none }

/-- The closed cycle (R86; log 15). -/
def Arbiter.closed (a : Arbiter) : Arbiter :=
  { a with cycleOpen := false, cursor := 0, burstCount := 0, burstAddress := none }

theorem Arbiter.pollable_iff (a : Arbiter) (e : Entry) : a.pollable e = true ↔ a.PollableAt a.cursor e := by
  simp only [Arbiter.pollable, Arbiter.PollableAt, Bool.and_eq_true, Bool.or_eq_true, decide_eq_true_eq, beq_iff_eq,
    and_assoc, true_imp_iff, Nat.pos_iff_ne_zero]
  refine and_congr_right fun _ => and_congr_right fun _ => ?_
  rw [← or_iff_not_imp_left]

/-- Past the cursor's slot the burst makes no difference. -/
theorem Arbiter.pollableAt_advance (a : Arbiter) (h : a.cursor + 1 < Config.stationSlots) {n : Nat}
    (hn : a.cursor < n) (e : Entry) : a.advance.PollableAt n e ↔ a.PollableAt n e := by
  rw [a.advance_next h]
  refine and_congr_right fun _ => and_congr_right fun _ => ⟨fun _ heq => ?_, fun _ _ hburst => ?_⟩
  · exact absurd heq (Nat.ne_of_gt hn)
  · cases hburst

theorem Arbiter.atSlot_advance (a : Arbiter) (h : a.cursor + 1 < Config.stationSlots) {n : Nat} (hn : a.cursor < n) :
    a.advance.atSlot n = a.atSlot n := by
  rw [a.advance_next h, Arbiter.atSlot, Arbiter.atSlot, if_neg (Nat.ne_of_gt hn)]
  split
  next heq => rw [show n = a.cursor + 1 from heq]
  · rfl

section

variable (s : State)

/-- The walk examines the cursor's slot: there is no entry to poll there, and the cursor advances. -/
theorem State.walkCursor_advances (fuel : Nat) (hopen : s.arbiter.cycleOpen = true)
    (hnot : ∀ e, s.entry s.arbiter.cursor = some e → ¬ s.arbiter.PollableAt s.arbiter.cursor e) :
    State.walkCursor (fuel + 1) s = State.walkCursor fuel { s with arbiter := s.arbiter.advance } := by
  cases he : s.entry s.arbiter.cursor with
  | none => simp [State.walkCursor, hopen, he]
  | some e =>
    have hpoll : s.arbiter.pollable e = false := by
      rw [← Bool.not_eq_true, Arbiter.pollable_iff]
      exact hnot e he
    simp [State.walkCursor, hopen, he, hpoll]

/-- The walk comes to the first entry to be polled, d slots on, and polls it (R84). -/
theorem State.walkCursor_finds (d : Nat) {fuel : Nat} (hfuel : d < fuel) (hopen : s.arbiter.cycleOpen = true)
    (hrange : s.arbiter.cursor + d < Config.stationSlots) {e : Entry}
    (he : s.entry (s.arbiter.cursor + d) = some e) (hpoll : s.arbiter.PollableAt (s.arbiter.cursor + d) e)
    (hbefore : ∀ m f, s.arbiter.cursor ≤ m → m < s.arbiter.cursor + d → s.entry m = some f →
      ¬ s.arbiter.PollableAt m f) :
    State.walkCursor fuel s
      = State.startPoll { s with arbiter := s.arbiter.atSlot (s.arbiter.cursor + d) } e := by
  induction d generalizing s fuel with
  | zero =>
    obtain _ | fuel := fuel
    · cases hfuel
    rw [Nat.add_zero] at he hpoll ⊢
    have hpollable : s.arbiter.pollable e = true := (Arbiter.pollable_iff _ e).mpr hpoll
    simp [State.walkCursor, hopen, he, hpollable, Arbiter.atSlot]
  | succ d ih =>
    obtain _ | fuel := fuel
    · cases hfuel
    have hnext : s.arbiter.cursor + 1 < Config.stationSlots := by omega
    have hcursor : s.arbiter.advance.cursor = s.arbiter.cursor + 1 := by rw [s.arbiter.advance_next hnext]
    have hopen' : s.arbiter.advance.cycleOpen = true := by rw [s.arbiter.advance_next hnext]; exact hopen
    have hslot : s.arbiter.advance.cursor + d = s.arbiter.cursor + (d + 1) := by omega
    have hrange' : s.arbiter.advance.cursor + d < Config.stationSlots := by omega
    rw [s.walkCursor_advances fuel hopen fun f hf => hbefore _ f le_rfl (by omega) hf]
    rw [ih { s with arbiter := s.arbiter.advance } (Nat.lt_of_succ_lt_succ hfuel) hopen' hrange'
      (by rw [hslot]; exact he) (by rw [hslot, Arbiter.pollableAt_advance _ hnext (by omega)]; exact hpoll)
      fun m f hm hm' hf => ?_]
    · rw [hslot, Arbiter.atSlot_advance _ hnext (by omega)]
    · rw [Arbiter.pollableAt_advance _ hnext (by simp only [hcursor] at hm; omega)]
      exact hbefore m f (by simp only [hcursor] at hm; omega) (by simp only [hslot] at hm'; exact hm') hf

/-- With nothing to be polled in the d slots past the cursor's, which are the last, the walk closes the cycle (R86). -/
theorem State.walkCursor_closes (d : Nat) {fuel : Nat} (hfuel : d < fuel) (hopen : s.arbiter.cycleOpen = true)
    (hrange : s.arbiter.cursor + d + 1 = Config.stationSlots)
    (hnone : ∀ m f, s.arbiter.cursor ≤ m → m < Config.stationSlots → s.entry m = some f →
      ¬ s.arbiter.PollableAt m f) :
    State.walkCursor fuel s = { s with arbiter := s.arbiter.closed } := by
  induction d generalizing s fuel with
  | zero =>
    obtain _ | fuel := fuel
    · cases hfuel
    rw [s.walkCursor_advances fuel hopen fun f hf => hnone _ f le_rfl (by omega) hf,
      s.arbiter.advance_closes (by omega)]
    exact State.walkCursor_closed _ fuel rfl
  | succ d ih =>
    obtain _ | fuel := fuel
    · cases hfuel
    have hnext : s.arbiter.cursor + 1 < Config.stationSlots := by omega
    have hcursor : s.arbiter.advance.cursor = s.arbiter.cursor + 1 := by rw [s.arbiter.advance_next hnext]
    have hopen' : s.arbiter.advance.cycleOpen = true := by rw [s.arbiter.advance_next hnext]; exact hopen
    have hrange' : s.arbiter.advance.cursor + d + 1 = Config.stationSlots := by omega
    rw [s.walkCursor_advances fuel hopen fun f hf => hnone _ f le_rfl (by omega) hf]
    rw [ih { s with arbiter := s.arbiter.advance } (Nat.lt_of_succ_lt_succ hfuel) hopen' hrange'
      fun m f hm hm' hf => ?_]
    · rw [s.arbiter.advance_next hnext]
      rfl
    · rw [Arbiter.pollableAt_advance _ hnext (by simp only [hcursor] at hm; omega)]
      exact hnone m f (by simp only [hcursor] at hm; omega) hm' hf

/-! ### The choice with an open cycle (R80) -/

/-- The POLL of the entry in slot n has started, the cursor having come to it (R84, R85). -/
def State.polling (s : State) (n : Nat) (e : Entry) : State := State.startPoll { s with arbiter := s.arbiter.atSlot n } e

variable {s} (hrun : s.run = .running) (hx : s.exchange = none) (hlist : s.arbiter.serviceList = [])
  (hopen : s.arbiter.cycleOpen = true)

include hrun hx hlist hopen

theorem State.choice_polls {n : Nat} {e : Entry} (hcursor : s.arbiter.cursor ≤ n) (hn : n < Config.stationSlots)
    (he : s.entry n = some e) (hpoll : s.arbiter.PollableAt n e)
    (hbefore : ∀ m f, s.arbiter.cursor ≤ m → m < n → s.entry m = some f → ¬ s.arbiter.PollableAt m f) :
    s.choice = s.polling n e := by
  obtain ⟨d, rfl⟩ := Nat.exists_eq_add_of_le hcursor
  have hwalk := s.walkCursor_finds d (fuel := Config.stationSlots + 1) (by omega) hopen hn he hpoll hbefore
  have honce : s.chooseOnce = (s.polling (s.arbiter.cursor + d) e, false) := by
    simp only [State.chooseOnce, hlist, hwalk]
    rfl
  rw [State.choice, if_pos ⟨hx, hrun⟩, State.chooseAll, honce]

theorem State.choice_closes (hcursor : s.arbiter.cursor < Config.stationSlots)
    (hnone : ∀ m f, s.arbiter.cursor ≤ m → m < Config.stationSlots → s.entry m = some f →
      ¬ s.arbiter.PollableAt m f) (hqueues : ∀ q, (s.port q).queue = []) :
    s.choice = { s with arbiter := s.arbiter.closed } := by
  have hwalk := s.walkCursor_closes (Config.stationSlots - 1 - s.arbiter.cursor) (fuel := Config.stationSlots + 1)
    (by omega) hopen (by omega) hnone
  have hports := State.choosePort_none { s with arbiter := s.arbiter.closed }
    fun q => State.eligible_of_empty _ q (hqueues q)
  have honce : s.chooseOnce = ({ s with arbiter := s.arbiter.closed }, false) := by
    simp only [hx] at hports
    simp only [State.chooseOnce, hlist, hwalk, hx, hports]
  rw [State.choice, if_pos ⟨hx, hrun⟩, State.chooseAll, honce]

end

end Sys2Proof.Machine
end

section
/-! SUPPORT. A poll tick at its three owners, and its events while an exchange is in flight (R35, R79, R95, R96,
R110). -/

namespace Sys2Proof.Machine

open Sys2Proof

/-! ### The owners of a poll tick -/

section

variable (s : State)

/-- The cycle is open at a poll tick with polling enabled: an overrun (R96). -/
def State.overruns : Bool := s.loader.params.pollingEnabled && s.arbiter.cycleOpen

/-- The flags a poll tick hands to a port: BROKEN for an expired watch with notify set (R110), OVERRUN (R96). -/
def State.tickSticky (p : Port) : Sticky :=
  { (s.port p).sticky with
    broken := (s.port p).sticky.broken || s.anyWatch p fun _ w => w.notify && w.expires
    overrun := (s.port p).sticky.overrun || (s.overruns && (s.port p).state.admits) }

theorem State.ticked_of_overruns (h : s.overruns = true) : s.ticked
    = ({ s.reloadPollTimer.ageWatches with table := s.table.map countDown } : State).overrun := if_pos h

theorem State.ticked_of_not_overruns (h : s.overruns = false) : s.ticked
    = { s.reloadPollTimer.ageWatches with table := s.table.map countDown } :=
  if_neg (by rw [show (s.loader.params.pollingEnabled && s.arbiter.cycleOpen) = false from h]; exact Bool.false_ne_true)

/-- A poll tick hands a port its flags, and nothing else. -/
theorem State.ticked_port (p : Port) : s.ticked.port p = { s.port p with sticky := s.tickSticky p } := by
  have haged : s.reloadPollTimer.ageWatches.port p = { s.port p with sticky := { (s.port p).sticky with
      broken := (s.port p).sticky.broken || s.anyWatch p fun _ w => w.notify && w.expires } } := by
    refine (State.notice_port _ _ _ p).trans ?_
    rw [Quad.get_ofFn]
    show (if (s.anyWatch p fun _ w => w.notify && w.expires) = true then
      { s.port p with sticky := (s.port p).sticky.setBroken } else s.port p) = _
    cases s.anyWatch p fun _ w => w.notify && w.expires <;> simp [Sticky.setBroken]
  cases hover : s.overruns with
  | false =>
    rw [s.ticked_of_not_overruns hover]
    refine haged.trans ?_
    simp [State.tickSticky, hover]
  | true =>
    rw [s.ticked_of_overruns hover]
    refine (State.updPorts_port _ _ p).trans ?_
    show (if (s.reloadPollTimer.ageWatches.port p).state.admits = true then
      { s.reloadPollTimer.ageWatches.port p with
        sticky := (s.reloadPollTimer.ageWatches.port p).sticky.setOverrun } else s.reloadPollTimer.ageWatches.port p) = _
    rw [haged]
    cases hadmits : (s.port p).state.admits <;> simp [State.tickSticky, hover, hadmits, Sticky.setOverrun]

/-- The Arbiter after a poll tick: the timer is loaded again, and an overrun is counted (R95, R96). -/
theorem State.ticked_arbiter : s.ticked.arbiter = { s.arbiter with
    pollTimer := some s.loader.params.pollPeriod
    overruns := if s.overruns then s.arbiter.overruns + 1 else s.arbiter.overruns } := by
  cases hover : s.overruns with
  | false => rw [s.ticked_of_not_overruns hover]; rfl
  | true => rw [s.ticked_of_overruns hover]; rfl

/-- Of the rest a poll tick changes the watches and the table (R35, R110). -/
theorem State.ticked_rest : { s.ticked with
    ports := s.ports, arbiter := s.arbiter, watches := s.watches, table := s.table } = s := by
  cases hover : s.overruns with
  | false => rw [s.ticked_of_not_overruns hover]; rfl
  | true => rw [s.ticked_of_overruns hover]; rfl

theorem State.ticked_watch (p : Port) (k : WatchNo) : s.ticked.watch p k = (s.watch p k).age := by
  have haged : ((s.watches.map fun q : Quad Watch => q.map Watch.age).get p).get k = (s.watch p k).age := by
    rw [Quad.get_map, Quad.get_map]
    rfl
  cases hover : s.overruns with
  | false => rw [s.ticked_of_not_overruns hover]; exact haged
  | true => rw [s.ticked_of_overruns hover]; exact haged

/-- The countdown of one entry at a poll tick (R35). -/
def Entry.countedDown (e : Entry) : Entry :=
  if e.state = .offline ∧ 0 < e.countdown then { e with countdown := e.countdown - 1 } else e

theorem State.ticked_entry (k : Nat) : s.ticked.entry k = (s.entry k).map Entry.countedDown := by
  have hcount : countDown = Option.map Entry.countedDown := by
    funext o
    cases o with
    | none => rfl
    | some e => simp [countDown, Entry.counting, Entry.countedDown]
  have htable : s.ticked.table = s.table.map (Option.map Entry.countedDown) := by
    rw [← hcount]
    cases hover : s.overruns with
    | false => exact congrArg State.table (s.ticked_of_not_overruns hover)
    | true => exact congrArg State.table (s.ticked_of_overruns hover)
  exact State.entry_of_table_map htable k

/-- What a poll tick does to the ports makes no local request ready. -/
theorem State.Quiet.ticked {s : State} (h : s.Quiet) : s.ticked.Quiet := by
  intro q
  have hrun : s.ticked.run = s.run := (congrArg State.run s.ticked_rest :)
  refine Eq.trans ?_ (h q)
  unfold State.localReady
  rw [hrun, s.ticked_port]

/-! ### Its events while an exchange is in flight (R79) -/

/-- The reprobe that a slot puts on the service list when it falls due (R35). -/
def State.reprobeItem (k : Nat) : Option ServiceItem :=
  (s.entry k).bind fun e => if e.state = .offline ∧ e.countdown = 0 then some ⟨k, e.address, .reprobe⟩ else none

/-- What an event of a poll tick puts on the service list. -/
def State.eventItem : PollEvent → Option ServiceItem
  | .reprobe k => s.reprobeItem k
  | .cycle => none

theorem State.appendReprobe_eq (k : Nat) : s.appendReprobe k = { s with
    arbiter := { s.arbiter with serviceList := s.arbiter.serviceList ++ (s.reprobeItem k).toList } } := by
  unfold State.appendReprobe State.reprobeItem
  cases s.entry k with
  | none => simp
  | some e =>
    simp only [Option.bind_some]
    split
    · rfl
    · simp

end

/-- From s to t the events have been taken with no choice made: their reprobes have joined the service list, in some
order, and the cycle has opened when that was one of them. -/
structure EventsTaken (s t : State) (events : List PollEvent) : Prop where
  rest : { t with arbiter := s.arbiter, races := s.races } = s
  service : ∃ due, t.arbiter.serviceList = s.arbiter.serviceList ++ due ∧ due.Perm (events.filterMap s.eventItem)
  cycle : { t.arbiter with serviceList := s.arbiter.serviceList }
    = if .cycle ∈ events then s.arbiter.openCycle else s.arbiter

theorem EventsTaken.nil (s : State) : EventsTaken s s [] := ⟨rfl, ⟨[], by simp, .refl _⟩, rfl⟩

/-- The model's counter of races makes no difference (log 7). -/
theorem EventsTaken.of_races {s t : State} {n : Nat} {events : List PollEvent}
    (h : EventsTaken { s with races := n } t events) : EventsTaken s t events :=
  ⟨by have hrest := congrArg (fun u : State => { u with races := s.races }) h.rest; exact hrest, h.service, h.cycle⟩

theorem EventsTaken.perm {s t : State} {events events' : List PollEvent} (h : EventsTaken s t events)
    (hperm : events.Perm events') : EventsTaken s t events' := by
  obtain ⟨due, hdue, hitems⟩ := h.service
  refine ⟨h.rest, ⟨due, hdue, hitems.trans (hperm.filterMap _)⟩, ?_⟩
  rw [h.cycle]
  simp only [hperm.mem_iff]

theorem EventsTaken.cons {s t u : State} {e : PollEvent} {events : List PollEvent} (h : EventsTaken s t [e])
    (h' : EventsTaken t u events) : EventsTaken s u (e :: events) := by
  obtain ⟨due, hdue, hitem⟩ := h.service
  obtain ⟨due', hdue', hitems⟩ := h'.service
  have htable : t.table = s.table := (congrArg State.table h.rest :)
  have hsame : t.eventItem = s.eventItem := by
    funext e
    cases e with
    | cycle => rfl
    | reprobe k => rw [State.eventItem, State.eventItem, State.reprobeItem, State.reprobeItem, State.entry_congr htable]
  have hopened : { u.arbiter with serviceList := s.arbiter.serviceList }
      = { (if PollEvent.cycle ∈ events then t.arbiter.openCycle else t.arbiter) with
          serviceList := s.arbiter.serviceList } := by
    rw [← h'.cycle]
  refine ⟨?_, ⟨due ++ due', by rw [hdue', hdue, List.append_assoc], ?_⟩, ?_⟩
  · calc _ = ({ ({ u with arbiter := t.arbiter, races := t.races } : State) with
            arbiter := s.arbiter, races := s.races } : State) := rfl
      _ = { t with arbiter := s.arbiter, races := s.races } := by rw [h'.rest]
      _ = s := h.rest
  · rw [hsame] at hitems
    rw [← List.singleton_append, List.filterMap_append]
    exact hitem.append hitems
  · rw [hopened]
    have hfirst := h.cycle
    simp only [List.mem_singleton] at hfirst
    by_cases hmem : PollEvent.cycle ∈ events
    · rw [if_pos hmem, if_pos (List.mem_cons_of_mem _ hmem)]
      show ({ t.arbiter with serviceList := s.arbiter.serviceList } : Arbiter).openCycle = _
      rw [hfirst]
      split <;> rfl
    · rw [if_neg hmem, hfirst]
      simp only [List.mem_cons, hmem, or_false]

/-- One event of a poll tick while an exchange is in flight: no choice follows it (R79). -/
theorem State.pollEvent_busy (s : State) (hx : s.exchange.isSome = true) (hquiet : s.Quiet) (e : PollEvent) :
    EventsTaken s (s.pollEvent e) [e] := by
  have hsettle : ∀ t : State, t.run = s.run → t.ports = s.ports → t.exchange = s.exchange → t.settle true = t :=
    fun t hrun hports hx' => t.settle_of_quiet true (hquiet.of_ports hrun hports) (.inr (hx' ▸ hx))
  cases e with
  | reprobe k =>
    have hevent : s.pollEvent (.reprobe k) = s.appendReprobe k :=
      hsettle _ (by rw [s.appendReprobe_eq]) (by rw [s.appendReprobe_eq]) (by rw [s.appendReprobe_eq])
    rw [hevent, s.appendReprobe_eq]
    refine ⟨rfl, ⟨(s.reprobeItem k).toList, rfl, ?_⟩, by simp⟩
    cases hitem : s.reprobeItem k <;> simp [State.eventItem, hitem]
  | cycle =>
    have hevent : s.pollEvent .cycle = { s with arbiter := s.arbiter.openCycle } :=
      hsettle { s with arbiter := s.arbiter.openCycle } rfl rfl rfl
    rw [hevent]
    exact ⟨rfl, ⟨[], by simp [Arbiter.openCycle], by simp [State.eventItem]⟩, by simp [Arbiter.openCycle]⟩

theorem State.pollEvents_busy (n : Nat) (events : List PollEvent) (s : State) (hn : events.length ≤ n)
    (hx : s.exchange.isSome = true) (hquiet : s.Quiet) : EventsTaken s (State.pollEvents n events s) events := by
  induction n generalizing s events with
  | zero =>
    cases List.length_eq_zero_iff.mp (Nat.le_zero.mp hn)
    exact .nil s
  | succ n ih =>
    unfold State.pollEvents
    split
    · exact .nil s
    · exact s.pollEvent_busy hx hquiet _
    next e rest _ =>
      have hi : Config.racePick s.races % (rest.length + 1) < (e :: rest).length := Nat.mod_lt _ (Nat.succ_pos _)
      simp only
      generalize Config.racePick s.races % (rest.length + 1) = i at hi ⊢
      rw [List.getD_eq_getElem _ _ hi]
      have hfirst := State.pollEvent_busy { s with races := s.races + 1 } hx (hquiet.of_ports rfl rfl) (e :: rest)[i]
      have hports : (State.pollEvent { s with races := s.races + 1 } (e :: rest)[i]).ports = s.ports :=
        (congrArg State.ports hfirst.rest :)
      have hrun : (State.pollEvent { s with races := s.races + 1 } (e :: rest)[i]).run = s.run :=
        (congrArg State.run hfirst.rest :)
      have hx' : (State.pollEvent { s with races := s.races + 1 } (e :: rest)[i]).exchange = s.exchange :=
        (congrArg State.exchange hfirst.rest :)
      have hlength : ((e :: rest).eraseIdx i).length ≤ n := by
        rw [List.length_eraseIdx_of_lt hi]
        exact Nat.sub_le_of_le_add hn
      have hothers := ih _ _ hlength (by rw [hx']; exact hx) (hquiet.of_ports hrun hports)
      exact (hfirst.cons hothers).of_races.perm (List.getElem_cons_eraseIdx_perm hi)

/-- The reprobes that a poll tick brings are those of the OFFLINE entries whose countdown stood at 1 (R35). -/
theorem State.mem_tickEvents_items (s : State) (i : ServiceItem) :
    i ∈ s.tickEvents.filterMap s.ticked.eventItem ↔ i.purpose = .reprobe ∧ i.slot < s.table.length
      ∧ ∃ e, s.entry i.slot = some e ∧ e.address = i.address ∧ e.state = .offline ∧ e.countdown = 1 := by
  have hdue : ∀ k, k ∈ s.reprobesDue ↔ k < s.table.length
      ∧ ∃ e, s.entry k = some e ∧ e.state = .offline ∧ e.countdown = 1 := by
    intro k
    unfold State.reprobesDue
    rw [List.mem_filter, List.mem_range]
    refine and_congr_right fun _ => ?_
    cases s.entry k <;> simp
  have hitem : ∀ k e, s.entry k = some e → e.state = .offline → e.countdown = 1 →
      s.ticked.reprobeItem k = some ⟨k, e.address, .reprobe⟩ := by
    intro k e he hoffline hcount
    simp [State.reprobeItem, s.ticked_entry, he, Entry.countedDown, hoffline, hcount]
  rw [List.mem_filterMap]
  constructor
  · rintro ⟨event, hevent, hi⟩
    cases event with
    | cycle => cases hi
    | reprobe k =>
      obtain ⟨hk, e, he, hoffline, hcount⟩ := (hdue k).mp ((s.reprobe_mem_tickEvents k).mp hevent)
      cases (hitem k e he hoffline hcount).symm.trans hi
      exact ⟨rfl, hk, e, he, rfl, hoffline, hcount⟩
  · rintro ⟨hp, hk, e, he, haddress, hoffline, hcount⟩
    refine ⟨.reprobe i.slot, (s.reprobe_mem_tickEvents _).mpr ((hdue _).mpr ⟨hk, e, he, hoffline, hcount⟩), ?_⟩
    refine (hitem i.slot e he hoffline hcount).trans ?_
    rw [haddress, ← hp]

theorem State.tickEvents_items_nodup (s : State) : (s.tickEvents.filterMap s.ticked.eventItem).Nodup := by
  have hslot : ∀ event i, s.ticked.eventItem event = some i → event = .reprobe i.slot := by
    intro event i hi
    cases event with
    | cycle => cases hi
    | reprobe k =>
      obtain ⟨e, -, he⟩ := Option.bind_eq_some_iff.mp hi
      split at he
      · cases he; rfl
      · cases he
  exact s.tickEvents_nodup.filterMap fun event event' i hi hi' => (hslot event i hi).trans (hslot event' i hi').symm

end Sys2Proof.Machine
end

section
/-! SUPPORT. TICK and POLL_TICK (R95, R96): what each leaves. -/

namespace Sys2Proof.Machine

open Sys2Proof

section

variable (s : State)

theorem exec_tick_stopped (h : s.arbiter.pollTimer = none) : exec .tick s = .next s := by
  show execTick s = _
  simp only [execTick, h]

theorem exec_tick_counts {n : Nat} (h : s.arbiter.pollTimer = some n) (hn : 1 < n) :
    exec .tick s = .next { s with arbiter := { s.arbiter with pollTimer := some (n - 1) } } := by
  show execTick s = _
  simp only [execTick, h, if_neg (Nat.not_le_of_lt hn)]

theorem exec_tick_last (h : s.arbiter.pollTimer = some 1) : exec .tick s = .next s.pollTick := by
  show execTick s = _
  simp only [execTick, h, if_pos (Nat.le_refl 1)]

theorem exec_pollTick (h : s.arbiter.pollTimer.isSome = true) : exec .pollTick s = .next s.pollTick := by
  obtain ⟨n, hn⟩ := Option.isSome_iff_exists.mp h
  show execPollTick s = _
  simp only [execPollTick, hn]

/-- A poll tick opens a closed cycle when polling is enabled (R96). -/
theorem State.cycle_mem_tickEvents :
    .cycle ∈ s.tickEvents ↔ s.loader.params.pollingEnabled = true ∧ s.arbiter.cycleOpen = false := by
  unfold State.tickEvents
  cases s.loader.params.pollingEnabled <;> cases s.arbiter.cycleOpen <;> simp

theorem PortState.admits_eq (state : PortState) : state.admits = decide (state = .opened ∨ state = .dozing) := by
  cases state <;> rfl

/-- The POLL of slot n as it stands in the record, with the Arbiter's burst (R84, R85). -/
theorem State.polling_eq (n : Nat) (e : Entry) : s.polling n e = { s with
    exchange := some (pollExchange n e), line := s.line.give (pollFrame e.address ⟨e.ack, true⟩)
    arbiter := { s.arbiter with
      cursor := n, burstCount := (if n = s.arbiter.cursor then s.arbiter.burstCount else 0) + 1
      burstAddress := some e.address } } := by
  unfold State.polling Arbiter.atSlot
  split
  next hn => rw [hn]; rfl
  · rfl

end

/-! ### A poll tick with an exchange in flight -/

section

variable {s : State} (hx : s.exchange.isSome = true) (hquiet : s.Quiet)

include hx hquiet

/-- With an exchange in flight the events of a poll tick bring no choice. -/
theorem State.pollTick_busy : EventsTaken s.ticked s.pollTick s.tickEvents := by
  have hx' : s.ticked.exchange = s.exchange := (congrArg State.exchange s.ticked_rest :)
  rw [s.pollTick_eq]
  exact State.pollEvents_busy _ _ _ le_rfl (by rw [hx']; exact hx) hquiet.ticked

/-- The Arbiter but for its service list. -/
theorem State.pollTick_busy_arbiter : { s.pollTick.arbiter with serviceList := s.arbiter.serviceList }
    = if s.loader.params.pollingEnabled = true ∧ s.arbiter.cycleOpen = false then s.ticked.arbiter.openCycle
      else s.ticked.arbiter := by
  have hlist : s.ticked.arbiter.serviceList = s.arbiter.serviceList := by rw [s.ticked_arbiter]
  have hcycle := (State.pollTick_busy hx hquiet).cycle
  rw [hlist] at hcycle
  simp only [hcycle, s.cycle_mem_tickEvents]

end

/-! ### A poll tick on an idle record where nothing waits -/

section

theorem Entry.countedDown_of_online (e : Entry) (h : e.state = .online ∨ e.state = .suspect) : e.countedDown = e :=
  if_neg fun hcount => by rcases h with h | h <;> rw [h] at hcount <;> cases hcount.1

theorem Entry.countedDown_keeps (e : Entry) :
    e.countedDown.state = e.state ∧ e.countedDown.capable = e.capable := by
  unfold Entry.countedDown
  split <;> exact ⟨rfl, rfl⟩

variable {s : State}

/-- The poll tick has reached its owners, and the cycle is open (R96). -/
def State.cycleBegun (s : State) : State := { s.ticked with arbiter := s.ticked.arbiter.openCycle }

/-- With nothing due the one event of the poll tick is the cycle that opens. -/
theorem State.pollTick_opens (henabled : s.loader.params.pollingEnabled = true) (hclosed : s.arbiter.cycleOpen = false)
    (hdue : ∀ k e, s.entry k = some e → e.state = .offline → e.countdown ≠ 1) :
    s.pollTick = s.cycleBegun.settle true := by
  have hnone : s.reprobesDue = [] := by
    refine List.filter_eq_nil_iff.mpr fun k _ => ?_
    cases he : s.entry k with
    | none => simp
    | some e => simpa using hdue k e he
  have hevents : s.tickEvents = [.cycle] := by simp [State.tickEvents, hnone, henabled, hclosed]
  rw [s.pollTick_eq, hevents]
  rfl

/-- In the cycle that has just opened every slot is polled that the table lets be polled (R84). -/
theorem State.cycleBegun_pollableAt (n : Nat) (e : Entry) : s.cycleBegun.arbiter.PollableAt n e
    ↔ (e.state = .online ∨ e.state = .suspect) ∧ e.capable = true :=
  and_congr_right fun _ => ⟨fun h => h.1, fun h => ⟨h, fun _ hburst => absurd hburst (Nat.lt_irrefl 0)⟩⟩

theorem State.cycleBegun_entry (k : Nat) : s.cycleBegun.entry k = (s.entry k).map Entry.countedDown := s.ticked_entry k

/-- Before the choice the line, the record and the run stand as they were. -/
theorem State.cycleBegun_kept : s.cycleBegun.run = s.run ∧ s.cycleBegun.exchange = s.exchange
    ∧ s.cycleBegun.line = s.line ∧ s.cycleBegun.arbiter.serviceList = s.arbiter.serviceList :=
  ⟨(congrArg State.run s.ticked_rest :), (congrArg State.exchange s.ticked_rest :), (congrArg State.line s.ticked_rest :),
    (congrArg Arbiter.serviceList s.ticked_arbiter :)⟩

/-- Nothing that the choice leaves of the ports makes a local request ready. -/
theorem State.cycleBegun_quiet (hnothing : s.NothingWaits) {t : State} (ht : t.ports = s.cycleBegun.ports) :
    t.Quiet := by
  intro q
  refine t.localReady_of_empty q ?_
  have hport : t.port q = s.ticked.port q := congrArg (Quad.get · q) ht
  rw [hport, s.ticked_port]
  exact hnothing.queues q

variable (hrun : s.run = .running) (hx : s.exchange = none) (hnothing : s.NothingWaits)

include hrun hx hnothing

/-- What the choice that follows finds to poll, it polls. -/
theorem State.cycleBegun_polls {n : Nat} {e : Entry} (hn : n < Config.stationSlots) (he : s.entry n = some e)
    (hpoll : (e.state = .online ∨ e.state = .suspect) ∧ e.capable = true)
    (hbefore : ∀ m f, m < n → s.entry m = some f → ¬ ((f.state = .online ∨ f.state = .suspect) ∧ f.capable = true)) :
    s.cycleBegun.settle true = s.cycleBegun.polling n e := by
  obtain ⟨hrun', hx', -, hlist⟩ := s.cycleBegun_kept
  have he' : s.cycleBegun.entry n = some e := by
    rw [State.cycleBegun_entry, he, Option.map_some, e.countedDown_of_online hpoll.1]
  have hchoice := State.choice_polls (hrun'.trans hrun) (hx'.trans hx) (hlist.trans hnothing.service) rfl
    (Nat.zero_le n) hn he' ((State.cycleBegun_pollableAt n e).mpr hpoll) fun m f _ hm hf => by
      rw [State.cycleBegun_entry] at hf
      obtain ⟨g, hg, rfl⟩ := Option.map_eq_some_iff.mp hf
      rw [State.cycleBegun_pollableAt, g.countedDown_keeps.1, g.countedDown_keeps.2]
      exact hbefore m g hm hg
  have hafter : s.cycleBegun.choice.Quiet := by
    rw [hchoice, State.polling_eq]
    exact State.cycleBegun_quiet hnothing rfl
  rw [State.settle_choice _ (State.cycleBegun_quiet hnothing rfl) (hx'.trans hx) hafter, hchoice]

/-- With nothing to poll the cycle closes in the same change. -/
theorem State.cycleBegun_closes
    (hnone : ∀ m f, m < Config.stationSlots → s.entry m = some f →
      ¬ ((f.state = .online ∨ f.state = .suspect) ∧ f.capable = true)) :
    s.cycleBegun.settle true = { s.cycleBegun with arbiter := s.cycleBegun.arbiter.closed } := by
  obtain ⟨hrun', hx', -, hlist⟩ := s.cycleBegun_kept
  have hqueues : ∀ q, (s.cycleBegun.port q).queue = [] := by
    intro q
    have hport : s.cycleBegun.port q = s.ticked.port q := rfl
    rw [hport, s.ticked_port]
    exact hnothing.queues q
  have hchoice := State.choice_closes (hrun'.trans hrun) (hx'.trans hx) (hlist.trans hnothing.service) rfl
    (Nat.zero_lt_succ 31) (fun m f _ hm hf => by
      rw [State.cycleBegun_entry] at hf
      obtain ⟨g, hg, rfl⟩ := Option.map_eq_some_iff.mp hf
      rw [State.cycleBegun_pollableAt, g.countedDown_keeps.1, g.countedDown_keeps.2]
      exact hnone m g hm hg) hqueues
  have hafter : s.cycleBegun.choice.Quiet := by
    rw [hchoice]
    exact State.cycleBegun_quiet hnothing rfl
  rw [State.settle_choice _ (State.cycleBegun_quiet hnothing rfl) (hx'.trans hx) hafter, hchoice]

end

end Sys2Proof.Machine
end

section
/-! CLAIM. TICK, POLL_TICK and the cursor walk. -/

open Sys2Proof Sys2Proof.Machine

/-- Settles O49: the tick counts down to the poll tick; with an exchange in flight its owners and its events are all it
brings; a choice with an open cycle polls the first pollable slot or closes the cycle, at a poll tick as elsewhere. -/
theorem ticksReachThePollTickAndItsOwners : Obligations.TicksReachThePollTickAndItsOwners := by
  refine ⟨?ticks, ?busy, ?walk, ?idle⟩
  case ticks =>
    refine fun s => ⟨exec_tick_stopped s, fun n => exec_tick_counts s, fun h => ?_⟩
    rw [exec_tick_last s h, exec_pollTick s (by rw [h]; rfl)]
  case busy =>
    intro s htimer hx hquiet enabled
    have htaken := State.pollTick_busy hx hquiet
    have harbiter := State.pollTick_busy_arbiter hx hquiet
    have hport : ∀ p, s.pollTick.port p = { s.port p with sticky := s.tickSticky p } := fun p =>
      (congrArg (Quad.get · p) (congrArg State.ports htaken.rest :)).trans (s.ticked_port p)
    have hwatches : s.pollTick.watches = s.ticked.watches := (congrArg State.watches htaken.rest :)
    have htable : s.pollTick.table = s.ticked.table := (congrArg State.table htaken.rest :)
    refine ⟨s.pollTick, exec_pollTick s htimer, ?timer, ?exchange, fun p k => ?watch, fun k => ?entry, ?service,
      ?opens, ?overrun, ?disabled, fun p => ?broken⟩
    case timer =>
      refine (congrArg Arbiter.pollTimer harbiter :).trans ?_
      rw [s.ticked_arbiter]
      split <;> rfl
    case exchange => exact (congrArg State.exchange htaken.rest :).trans (congrArg State.exchange s.ticked_rest :)
    case watch => exact (State.watch_congr hwatches p k).trans (s.ticked_watch p k)
    case entry => exact (State.entry_congr htable k).trans (s.ticked_entry k)
    case service =>
      obtain ⟨due, hdue, hperm⟩ := htaken.service
      have hlist : s.ticked.arbiter.serviceList = s.arbiter.serviceList := by rw [s.ticked_arbiter]
      rw [hlist] at hdue
      exact ⟨due, hdue, hperm.nodup_iff.mpr s.tickEvents_items_nodup,
        fun i => hperm.mem_iff.trans (s.mem_tickEvents_items i)⟩
    case opens =>
      intro henabled hclosed
      have hover : s.overruns = false := by rw [State.overruns, hclosed, Bool.and_false]
      rw [if_pos ⟨henabled, hclosed⟩, s.ticked_arbiter, hover, if_neg Bool.false_ne_true] at harbiter
      exact ⟨(congrArg Arbiter.cycleOpen harbiter :), (congrArg Arbiter.cursor harbiter :),
        (congrArg Arbiter.burstCount harbiter :), (congrArg Arbiter.burstAddress harbiter :),
        (congrArg Arbiter.overruns harbiter :)⟩
    case overrun =>
      intro henabled hopen
      have hover : s.overruns = true := Bool.and_eq_true_iff.mpr ⟨henabled, hopen⟩
      rw [if_neg (by simp [hopen]), s.ticked_arbiter, hover, if_pos rfl] at harbiter
      refine ⟨(congrArg Arbiter.cycleOpen harbiter :).trans hopen, (congrArg Arbiter.cursor harbiter :),
        (congrArg Arbiter.overruns harbiter :), fun p => ?_⟩
      rw [hport, State.tickSticky, hover, Bool.true_and, PortState.admits_eq]
    case disabled =>
      intro hdisabled
      have hover : s.overruns = false := Bool.and_eq_false_iff.mpr (.inl hdisabled)
      have hnot : ¬ (s.loader.params.pollingEnabled = true ∧ s.arbiter.cycleOpen = false) :=
        fun h => Bool.false_ne_true (hdisabled.symm.trans h.1)
      rw [if_neg hnot, s.ticked_arbiter, hover, if_neg Bool.false_ne_true] at harbiter
      exact ⟨(congrArg Arbiter.cycleOpen harbiter :), (congrArg Arbiter.overruns harbiter :)⟩
    case broken =>
      rw [hport]
      refine congrArg ((s.port p).sticky.broken || ·) (State.anyWatch_congr fun k => ?_)
      exact (Bool.and_assoc _ _ _).symm
  case walk =>
    intro s hrun hx hlist hopen a pollable
    refine ⟨fun n e hcursor hn he hpoll hbefore => ?_, fun hcursor hnone hqueues => ?_⟩
    · exact (State.choice_polls hrun hx hlist hopen hcursor hn he hpoll hbefore).trans (s.polling_eq n e)
    · exact State.choice_closes hrun hx hlist hopen hcursor hnone hqueues
  case idle =>
    intro s hrun hx hnothing htimer henabled hdue pollable
    have hopens := State.pollTick_opens henabled hnothing.cycle hdue
    have htaken := TakenUp.settle s.cycleBegun true
    obtain ⟨-, hx', hline, -⟩ := s.cycleBegun_kept
    refine ⟨s.cycleBegun.settle true, (exec_pollTick s htimer).trans (congrArg _ hopens),
      htaken.pollTimer.trans (congrArg Arbiter.pollTimer s.ticked_arbiter :), fun n e hn he hpoll hbefore => ?_,
      fun hnone => ?_⟩
    · rw [State.cycleBegun_polls hrun hx hnothing hn he hpoll hbefore, State.polling_eq, hline]
      refine ⟨rfl, rfl, rfl, rfl, ?_, rfl⟩
      show (if n = 0 then 0 else 0) + 1 = 1
      rw [ite_self]
    · rw [State.cycleBegun_closes hrun hx hnothing hnone]
      exact ⟨hx'.trans hx, hline, rfl⟩

end

section
/-! SUPPORT. The form of one watch slot (R99, R102, R104, R110), and the changes that keep it. -/

namespace Sys2Proof.Machine

open Sys2Proof

/-- What the form of the watch slots asks of one slot (R99, R102, R104, R110). -/
structure Watch.Wf (w : Watch) : Prop where
  empty : w.state = .empty → w = Watch.emptySlot
  covers : w.state ≠ .empty → w.cover.isSome = true
  cause : w.state = .broken ↔ w.cause ≠ .none
  alive : w.state = .armed → w.life ≠ .ticks 0

theorem Watch.emptySlot_wf : Watch.emptySlot.Wf :=
  ⟨fun _ => rfl, fun h => absurd rfl h, by simp [Watch.emptySlot], nofun⟩

/-- A watch is armed with life left, since a lifetime of 0 is unlimited (R102). -/
theorem armedWatch_wf (lifetime : Nat) (a : Byte) (first : Half) (count : Nat) (notify : Bool) :
    (armedWatch lifetime a first count notify).Wf := by
  refine ⟨nofun, fun _ => rfl, by simp [armedWatch], fun _ => ?_⟩
  by_cases hlife : lifetime = 0 <;> simp [armedWatch, hlife]

/-- A slot goes on: it keeps its form, and covers nothing that it did not cover. -/
structure Watch.GoesOn (w v : Watch) : Prop where
  wf : w.Wf → v.Wf
  cover : ∀ c, v.cover = some c → w.cover = some c

theorem Watch.GoesOn.refl (w : Watch) : w.GoesOn w := ⟨id, fun _ => id⟩

theorem Watch.GoesOn.trans {u v w : Watch} (h : u.GoesOn v) (h' : v.GoesOn w) : u.GoesOn w :=
  ⟨fun hu => h'.wf (h.wf hu), fun c hc => h.cover c (h'.cover c hc)⟩

theorem Watch.goesOn_emptied (w : Watch) : w.GoesOn Watch.emptySlot := ⟨fun _ => Watch.emptySlot_wf, nofun⟩

/-- An ARMED slot is broken by a cause (R104, R110). -/
theorem Watch.goesOn_broken {w : Watch} (harmed : w.state = .armed) {cause : BreakCause} (hcause : cause ≠ .none)
    (life : Life) : w.GoesOn { w with state := .broken, cause := cause, life := life } :=
  ⟨fun h => ⟨nofun, fun _ => h.covers (by simp [harmed]), by simp [hcause], nofun⟩, fun _ => id⟩

theorem Watch.goesOn_breakBy (w : Watch) (hit : Cover → Bool) {cause : BreakCause} (hcause : cause ≠ .none) :
    w.GoesOn (w.breakBy hit cause) := by
  unfold Watch.breakBy
  split
  next hhit =>
    rw [Watch.hitBy, Bool.and_eq_true, decide_eq_true_eq] at hhit
    exact Watch.goesOn_broken hhit.1 hcause w.life
  · exact .refl w

/-- At a poll tick an ARMED slot loses a tick of its life, and with its last it is broken (R110). -/
theorem Watch.goesOn_age (w : Watch) : w.GoesOn w.age := by
  unfold Watch.age
  split
  next n harmed _ =>
    split
    · exact Watch.goesOn_broken (cause := .expired) harmed nofun _
    next hn =>
      refine ⟨fun h => ⟨fun hempty => ?_, h.covers, h.cause, fun _ hlife => ?_⟩, fun _ => id⟩
      · cases harmed.symm.trans hempty
      · injection hlife with hlife
        omega
  · exact .refl w

/-- An ARMED slot commits to its CWRITE (R114). -/
theorem Watch.goesOn_committed {w : Watch} (harmed : w.state = .armed) :
    w.GoesOn { w with state := .committing, cause := .none } :=
  ⟨fun h => ⟨nofun, fun _ => h.covers (by simp [harmed]), by simp, nofun⟩, fun _ => id⟩

end Sys2Proof.Machine
end

section
/-! SUPPORT. The two invariants in parts: the slots and what keeps their stations attached (R99), the bounded stores
(R2, R130, R135) and the poll cycle (R84-R86). A change goes on when it takes nothing from any part. -/

namespace Sys2Proof.Machine

open Sys2Proof

/-! ### The parts of the invariants -/

/-- The watch slots alone: each has its form, and covers a station to which its port is attached (R99). -/
structure SlotInv (s : State) : Prop where
  wf : ∀ p k, (s.watch p k).Wf
  attached : ∀ p k c, (s.watch p k).cover = some c → s.Attached p c.station

/-- Port p is attached to the entry that the exchange is for. -/
def State.AttachedFor (s : State) (x : Exchange) (p : Port) : Prop :=
  ∃ j e, x.slot = some j ∧ s.entry j = some e ∧ e.address = x.address ∧ e.attached.get p = true

/-- A request that a pairing may hold (R91). -/
def Request.Pairs (r : Request) : Prop := r.isWrite = true ∨ r.isCwrite = true

theorem WatchInv.slots {s : State} (h : WatchInv s) : SlotInv s :=
  ⟨fun p k => ⟨h.empty p k, h.covers p k, h.cause p k, h.alive p k⟩, h.attached⟩

theorem SlotInv.watchInv {s : State} (h : SlotInv s)
    (hflight : ∀ x p, s.exchange = some x → x.origin = .port p → (s.port p).inFlight.isSome = true)
    (hwatching : ∀ x p k, s.exchange = some x → x.origin = .port p → x.kind = .read → x.watchSlot = some k →
      x.orphan = false → x.discard = false → s.AttachedFor x p)
    (hpairing : ∀ p, s.arbiter.pairing = some p → (∃ x, s.exchange = some x ∧ x.purpose = .resync)
      ∧ ∃ r rest, (s.port p).queue = r :: rest ∧ r.Pairs) : WatchInv s :=
  ⟨fun p k => (h.wf p k).empty, fun p k => (h.wf p k).covers, fun p k => (h.wf p k).cause, fun p k => (h.wf p k).alive,
    h.attached, hflight, hwatching, hpairing⟩

/-- On an idle record with no pairing the slots are all there is to ask. -/
theorem SlotInv.watchInv_idle {s : State} (h : SlotInv s) (hx : s.exchange = none) (hpairing : s.arbiter.pairing = none) :
    WatchInv s :=
  h.watchInv (by simp [hx]) (by simp [hx]) (by simp [hpairing])

/-- A pairing stands only while its resync PING is in flight (R91). -/
theorem WatchInv.unpaired_of_idle {s : State} (h : WatchInv s) (hx : s.exchange = none) : s.arbiter.pairing = none := by
  cases hp : s.arbiter.pairing with
  | none => rfl
  | some p =>
    obtain ⟨⟨x, hx', -⟩, -⟩ := h.pairing p hp
    cases hx.symm.trans hx'

/-- The exact list of a port holds at most 16 keys, none twice (R135). -/
def Routing.Bounded (r : Routing) : Prop := r.keys.length ≤ Config.listKeys ∧ r.keys.Nodup

/-- The stores that have a limit (R2, R130, R135). -/
structure StoreInv (s : State) : Prop where
  idle : s.line.idle ≤ Config.frameGap
  reports : ∀ p, (s.port p).reports.length ≤ Config.reportPlaces
  keys : ∀ p, (s.routing.get p).Bounded

/-- The poll cycle with a POLL in flight or without one (R84, R85, R86; log 15). -/
structure Arbiter.CycleWf (a : Arbiter) (polls : Bool) : Prop where
  cursor : a.cursor < Config.stationSlots
  closed : a.cycleOpen = false → a.cursor = 0 ∧ a.burstCount = 0
  polling : polls = true → a.cycleOpen = true
  burst : a.burstCount ≤ Config.burstLimit
  rest : polls = false → a.burstCount < Config.burstLimit
  address : a.burstCount = 0 ↔ a.burstAddress = none

/-- A POLL is in flight. -/
def State.polls (s : State) : Bool := s.exchange.any fun x => decide (x.purpose = .poll)

theorem State.polls_of_idle {s : State} (hx : s.exchange = none) : s.polls = false := by rw [State.polls, hx]; rfl

theorem State.polls_of_exchange {s : State} {x : Exchange} (hx : s.exchange = some x) :
    s.polls = decide (x.purpose = .poll) := by rw [State.polls, hx]; rfl

theorem limitInv_iff (s : State) : LimitInv s ↔ StoreInv s ∧ s.arbiter.CycleWf s.polls := by
  constructor
  · intro h
    refine ⟨⟨h.idle, h.reports, h.keys⟩, h.cursor, h.cycleClosed, fun hpolls => ?_, h.burst, fun hrest => ?_,
      h.burstAddress⟩
    · obtain ⟨x, hx, hp⟩ := (Option.any_eq_true _ _).mp hpolls
      exact h.polling x hx (of_decide_eq_true hp)
    · refine h.burstAtRest fun x hx => ?_
      rw [State.polls_of_exchange hx] at hrest
      exact of_decide_eq_false hrest
  · rintro ⟨hstores, hcycle⟩
    refine ⟨hstores.idle, hstores.reports, hstores.keys, hcycle.cursor, hcycle.closed, fun x hx hp => ?_, hcycle.burst,
      fun hrest => ?_, hcycle.address⟩
    · exact hcycle.polling ((State.polls_of_exchange hx).trans (decide_eq_true hp))
    · refine hcycle.rest ?_
      cases hx : s.exchange with
      | none => exact State.polls_of_idle hx
      | some x => exact (State.polls_of_exchange hx).trans (decide_eq_false (hrest x hx))

/-! ### What goes on -/

/-- The entry goes on: no port leaves it. -/
structure Entry.GoesOn (e f : Entry) : Prop where
  address : f.address = e.address := by rfl
  attached : ∀ p, e.attached.get p = true → f.attached.get p = true := by exact fun _ => id

theorem Entry.GoesOn.refl (e : Entry) : e.GoesOn e := {}

theorem Entry.GoesOn.trans {e f g : Entry} (h : e.GoesOn f) (h' : f.GoesOn g) : e.GoesOn g :=
  ⟨h'.address.trans h.address, fun p hp => h'.attached p (h.attached p hp)⟩

/-- The exchange goes on: at most its two flags are set, and its attempt changes. -/
structure Exchange.GoesOn (x y : Exchange) : Prop where
  origin : y.origin = x.origin := by rfl
  purpose : y.purpose = x.purpose := by rfl
  kind : y.kind = x.kind := by rfl
  slot : y.slot = x.slot := by rfl
  address : y.address = x.address := by rfl
  watchSlot : y.watchSlot = x.watchSlot := by rfl
  orphan : y.orphan = false → x.orphan = false := by exact id
  discard : y.discard = false → x.discard = false := by exact id

theorem Exchange.GoesOn.refl (x : Exchange) : x.GoesOn x := {}

theorem Exchange.GoesOn.trans {x y z : Exchange} (h : x.GoesOn y) (h' : y.GoesOn z) : x.GoesOn z :=
  ⟨h'.origin.trans h.origin, h'.purpose.trans h.purpose, h'.kind.trans h.kind, h'.slot.trans h.slot,
    h'.address.trans h.address, h'.watchSlot.trans h.watchSlot, fun hz => h.orphan (h'.orphan hz),
    fun hz => h.discard (h'.discard hz)⟩

/-- What stands in the record goes on. -/
def RecordGoesOn (a b : Option Exchange) : Prop := Option.Rel Exchange.GoesOn a b

theorem RecordGoesOn.refl (a : Option Exchange) : RecordGoesOn a a := by
  cases a with
  | none => exact .none
  | some x => exact .some (.refl x)

theorem RecordGoesOn.trans {a b c : Option Exchange} (h : RecordGoesOn a b) (h' : RecordGoesOn b c) :
    RecordGoesOn a c := by
  cases h with
  | none => exact h'
  | some h => cases h' with | some h' => exact .some (h.trans h')

/-- A change of the record in place. -/
theorem RecordGoesOn.map (a : Option Exchange) {f : Exchange → Exchange} (h : ∀ x : Exchange, x.GoesOn (f x)) :
    RecordGoesOn a (a.map f) := by
  cases a with
  | none => exact .none
  | some x => exact .some (h x)

theorem RecordGoesOn.polls {s t : State} (h : RecordGoesOn s.exchange t.exchange) : t.polls = s.polls := by
  unfold State.polls
  generalize s.exchange = a at h
  generalize t.exchange = b at h
  cases h with
  | none => rfl
  | some h => show decide _ = decide _; rw [h.purpose]

theorem RecordGoesOn.of_some {a : Option Exchange} {y : Exchange} (h : RecordGoesOn a (some y)) :
    ∃ x, a = some x ∧ x.GoesOn y := by
  cases h with
  | some h => exact ⟨_, rfl, h⟩

theorem RecordGoesOn.to_some {b : Option Exchange} {x : Exchange} (h : RecordGoesOn (some x) b) :
    ∃ y, b = some y ∧ x.GoesOn y := by
  cases h with
  | some h => exact ⟨_, rfl, h⟩

/-- The port goes on: its queue keeps its head, its request in flight stays, its reports keep their limit. -/
structure PortUnit.GoesOn (u v : PortUnit) : Prop where
  queue : u.queue <+: v.queue := by exact List.prefix_rfl
  flight : u.inFlight.isSome = true → v.inFlight.isSome = true := by exact id
  reports : u.reports.length ≤ Config.reportPlaces → v.reports.length ≤ Config.reportPlaces := by exact id

theorem PortUnit.GoesOn.refl (u : PortUnit) : u.GoesOn u := {}

/-- What the slots depend on goes on, and a pairing keeps its head. -/
structure SlotsGoOn (s t : State) : Prop where
  exchange : RecordGoesOn s.exchange t.exchange := by exact RecordGoesOn.refl _
  entry : ∀ k e, s.entry k = some e → ∃ f, t.entry k = some f ∧ e.GoesOn f := by exact fun _ e he => ⟨e, he, .refl e⟩
  watch : ∀ p k, (s.watch p k).GoesOn (t.watch p k) := by exact fun _ _ => .refl _
  flight : ∀ p, (s.port p).inFlight.isSome = true → (t.port p).inFlight.isSome = true := by exact fun _ => id
  pairing : ∀ p, t.arbiter.pairing = some p → s.arbiter.pairing = some p ∧ (s.port p).queue <+: (t.port p).queue := by
    exact fun _ hp => ⟨hp, List.prefix_rfl⟩

/-- The Arbiter's poll cycle. -/
def Arbiter.cycle (a : Arbiter) : Bool × Nat × Nat × Option Byte := (a.cycleOpen, a.cursor, a.burstCount, a.burstAddress)

/-- The limited stores and the poll cycle go on. -/
structure LimitsGoOn (s t : State) : Prop where
  polls : t.polls = s.polls := by rfl
  cycle : t.arbiter.cycle = s.arbiter.cycle := by rfl
  idle : s.line.idle ≤ Config.frameGap → t.line.idle ≤ Config.frameGap := by exact id
  reports : ∀ p, (s.port p).reports.length ≤ Config.reportPlaces → (t.port p).reports.length ≤ Config.reportPlaces := by
    exact fun _ => id
  keys : ∀ p, (s.routing.get p).Bounded → (t.routing.get p).Bounded := by exact fun _ => id

/-- All that the two invariants speak of goes on. -/
structure GoesOn (s t : State) : Prop where
  slots : SlotsGoOn s t
  limits : LimitsGoOn s t

section

variable {s t u : State}

theorem SlotsGoOn.trans (h : SlotsGoOn s t) (h' : SlotsGoOn t u) : SlotsGoOn s u where
  exchange := h.exchange.trans h'.exchange
  entry k e he := by
    obtain ⟨f, hf, hef⟩ := h.entry k e he
    obtain ⟨g, hg, hfg⟩ := h'.entry k f hf
    exact ⟨g, hg, hef.trans hfg⟩
  watch p k := (h.watch p k).trans (h'.watch p k)
  flight p hp := h'.flight p (h.flight p hp)
  pairing p hp := by
    obtain ⟨ht, hqueue'⟩ := h'.pairing p hp
    obtain ⟨hs, hqueue⟩ := h.pairing p ht
    exact ⟨hs, hqueue.trans hqueue'⟩

theorem LimitsGoOn.trans (h : LimitsGoOn s t) (h' : LimitsGoOn t u) : LimitsGoOn s u :=
  ⟨h'.polls.trans h.polls, h'.cycle.trans h.cycle, fun hs => h'.idle (h.idle hs), fun p hp => h'.reports p (h.reports p hp),
    fun p hp => h'.keys p (h.keys p hp)⟩

theorem GoesOn.refl (s : State) : GoesOn s s := ⟨{}, {}⟩

theorem GoesOn.trans (h : GoesOn s t) (h' : GoesOn t u) : GoesOn s u :=
  ⟨h.slots.trans h'.slots, h.limits.trans h'.limits⟩

theorem State.Attached.goesOn {p : Port} {a : Byte} (hs : s.Attached p a) (h : SlotsGoOn s t) : t.Attached p a := by
  obtain ⟨k, e, he, ha, hp⟩ := hs
  obtain ⟨f, hf, hgo⟩ := h.entry k e he
  exact ⟨k, f, hf, hgo.address.trans ha, hgo.attached p hp⟩

theorem SlotInv.goesOn (hs : SlotInv s) (h : SlotsGoOn s t) : SlotInv t :=
  ⟨fun p k => (h.watch p k).wf (hs.wf p k), fun p k c hc => (hs.attached p k c ((h.watch p k).cover c hc)).goesOn h⟩

/-- With the table as it is, the slots alone go on. -/
theorem SlotInv.of_table (hs : SlotInv s) (htable : t.table = s.table)
    (hwatch : ∀ p k, (s.watch p k).GoesOn (t.watch p k)) : SlotInv t := by
  refine ⟨fun p k => (hwatch p k).wf (hs.wf p k), fun p k c hc => ?_⟩
  obtain ⟨j, e, he, ha⟩ := hs.attached p k c ((hwatch p k).cover c hc)
  exact ⟨j, e, (State.entry_congr htable j).trans he, ha⟩

theorem StoreInv.goesOn (hs : StoreInv s) (h : LimitsGoOn s t) : StoreInv t :=
  ⟨h.idle hs.idle, fun p => h.reports p (hs.reports p), fun p => h.keys p (hs.keys p)⟩

/-- Slots in form keep the invariant while the record and the pairing go on and no port leaves the entry of its own
exchange. -/
theorem WatchInv.carry (hs : WatchInv s) (hslots : SlotInv t) (hrecord : RecordGoesOn s.exchange t.exchange)
    (hflight : ∀ p, (s.port p).inFlight.isSome = true → (t.port p).inFlight.isSome = true)
    (hpairing : ∀ p, t.arbiter.pairing = some p →
      s.arbiter.pairing = some p ∧ (s.port p).queue <+: (t.port p).queue)
    (hattached : ∀ x p, s.exchange = some x → x.origin = .port p → x.discard = false → s.AttachedFor x p →
      t.AttachedFor x p) : WatchInv t := by
  refine hslots.watchInv (fun y p hy horigin => ?flight) (fun y p k hy horigin hkind hwatch horphan hdiscard => ?watching)
    fun p hp => ?pairing
  case flight =>
    obtain ⟨x, hx, hxy⟩ := (hy ▸ hrecord).of_some
    exact hflight p (hs.flight x p hx (hxy.origin.symm.trans horigin))
  case watching =>
    obtain ⟨x, hx, hxy⟩ := (hy ▸ hrecord).of_some
    have hxp := hxy.origin.symm.trans horigin
    obtain ⟨j, e, hj, he, ha, hp⟩ := hattached x p hx hxp (hxy.discard hdiscard)
      (hs.watching x p k hx hxp (hxy.kind.symm.trans hkind) (hxy.watchSlot.symm.trans hwatch) (hxy.orphan horphan)
        (hxy.discard hdiscard))
    exact ⟨j, e, hxy.slot.trans hj, he, ha.trans hxy.address.symm, hp⟩
  case pairing =>
    obtain ⟨hpaired, more, hmore⟩ := hpairing p hp
    obtain ⟨⟨x, hx, hpurpose⟩, r, rest, hr, hpairs⟩ := hs.pairing p hpaired
    obtain ⟨y, hy, hxy⟩ := (hx ▸ hrecord).to_some
    exact ⟨⟨y, hy, hxy.purpose.trans hpurpose⟩, r, rest ++ more, by rw [← hmore, hr, List.cons_append], hpairs⟩

theorem State.AttachedFor.goesOn {x : Exchange} {p : Port} (hs : s.AttachedFor x p) (h : SlotsGoOn s t) :
    t.AttachedFor x p := by
  obtain ⟨j, e, hj, he, ha, hp⟩ := hs
  obtain ⟨f, hf, hgo⟩ := h.entry j e he
  exact ⟨j, f, hj, hf, hgo.address.trans ha, hgo.attached p hp⟩

theorem WatchInv.goesOn (hs : WatchInv s) (h : SlotsGoOn s t) : WatchInv t :=
  hs.carry (hs.slots.goesOn h) h.exchange h.flight h.pairing fun _ _ _ _ _ hattached => hattached.goesOn h

theorem Arbiter.CycleWf.of_cycle {a b : Arbiter} {polls : Bool} (h : a.CycleWf polls) (hcycle : b.cycle = a.cycle) :
    b.CycleWf polls := by
  simp only [Arbiter.cycle, Prod.mk.injEq] at hcycle
  obtain ⟨hopen, hcursor, hcount, haddress⟩ := hcycle
  exact ⟨by rw [hcursor]; exact h.cursor, by rw [hopen, hcursor, hcount]; exact h.closed, by rw [hopen]; exact h.polling,
    by rw [hcount]; exact h.burst, by rw [hcount]; exact h.rest, by rw [hcount, haddress]; exact h.address⟩

theorem LimitInv.goesOn (hs : LimitInv s) (h : LimitsGoOn s t) : LimitInv t := by
  obtain ⟨hstores, hcycle⟩ := (limitInv_iff s).mp hs
  rw [limitInv_iff, h.polls]
  exact ⟨hstores.goesOn h, hcycle.of_cycle h.cycle⟩

end

/-- From s to t the part keeps both invariants. -/
structure Keeps (s t : State) : Prop where
  watch : WatchInv s → WatchInv t
  limit : LimitInv s → LimitInv t

theorem Keeps.refl (s : State) : Keeps s s := ⟨id, id⟩

theorem Keeps.trans {s t u : State} (h : Keeps s t) (h' : Keeps t u) : Keeps s u :=
  ⟨fun hs => h'.watch (h.watch hs), fun hs => h'.limit (h.limit hs)⟩

theorem GoesOn.keeps {s t : State} (h : GoesOn s t) : Keeps s t := ⟨fun hs => hs.goesOn h.slots, fun hs => hs.goesOn h.limits⟩

theorem Keeps.ite {s a b : State} {c : Prop} [Decidable c] (ha : c → Keeps s a) (hb : Keeps s b) :
    Keeps s (if c then a else b) := by
  split
  next hc => exact ha hc
  · exact hb

theorem GoesOn.ite {s a b : State} {c : Prop} [Decidable c] (ha : GoesOn s a) (hb : GoesOn s b) :
    GoesOn s (if c then a else b) := by
  split
  · exact ha
  · exact hb

end Sys2Proof.Machine
end

section
/-! SUPPORT. The operations on the state with which the watch slots, the stores and the poll cycle go on: ports, slots,
the line, the routing, and the entries of the Station Table. -/

namespace Sys2Proof.Machine

open Sys2Proof

section

variable {s : State}

/-! ### Ports, the record, the line and the routing -/

theorem GoesOn.setPorts {ports : Quad PortUnit} (h : ∀ p, (s.port p).GoesOn (ports.get p)) :
    GoesOn s { s with ports := ports } :=
  ⟨{ flight := fun p => (h p).flight, pairing := fun p hp => ⟨hp, (h p).queue⟩ }, { reports := fun p => (h p).reports }⟩

theorem GoesOn.setPort {p : Port} {u : PortUnit} (h : (s.port p).GoesOn u) : GoesOn s (s.setPort p u) := by
  refine GoesOn.setPorts fun q => ?_
  rw [Quad.get_set]
  split
  next hq => rw [hq]; exact h
  · exact .refl _

theorem GoesOn.updPort {p : Port} {f : PortUnit → PortUnit} (h : (s.port p).GoesOn (f (s.port p))) :
    GoesOn s (s.updPort p f) := GoesOn.setPort h

theorem GoesOn.updPorts {f : Port → PortUnit → PortUnit} (h : ∀ p, (s.port p).GoesOn (f p (s.port p))) :
    GoesOn s (s.updPorts f) := by
  refine GoesOn.setPorts fun p => ?_
  rw [Quad.get_ofFn]
  exact h p

theorem GoesOn.notice (s : State) (ports : PortSet) (f : Sticky → Sticky) : GoesOn s (s.notice ports f) := by
  refine GoesOn.updPorts fun p => ?_
  split
  · exact {}
  · exact .refl _

theorem GoesOn.send (s : State) (p : Port) (w : Word) : GoesOn s (s.send p w) := GoesOn.updPort {}

theorem GoesOn.setLine {line : LineInterface} (h : s.line.idle ≤ Config.frameGap → line.idle ≤ Config.frameGap) :
    GoesOn s { s with line := line } :=
  ⟨{}, { idle := h }⟩

/-- A frame given to the Line Interface leaves the idle count or begins it again (R2, R3). -/
theorem LineInterface.give_idle {l : LineInterface} (h : l.idle ≤ Config.frameGap) (frame : List Byte) :
    (l.give frame).idle ≤ Config.frameGap := by
  unfold LineInterface.give
  split
  · exact Nat.zero_le _
  · exact h

theorem GoesOn.setRouting {p : Port} {r : Routing} (h : (s.routing.get p).Bounded → r.Bounded) :
    GoesOn s (s.setRouting p r) := by
  refine ⟨{}, { keys := fun q hq => ?_ }⟩
  show ((s.routing.set p r).get q).Bounded
  rw [Quad.get_set]
  split
  next hqp => subst hqp; exact h hq
  · exact hq

/-- The exchange, whatever its attempt, is the one in the record. -/
def State.Holds (s : State) (x : Exchange) : Prop := ∃ y, s.exchange = some y ∧ y.GoesOn x

theorem State.holds_of_exchange {x : Exchange} (hx : s.exchange = some x) : s.Holds x := ⟨x, hx, .refl x⟩

theorem State.Holds.goesOn {x z : Exchange} (h : s.Holds x) (hz : x.GoesOn z) : s.Holds z := by
  obtain ⟨y, hy, hyx⟩ := h
  exact ⟨y, hy, hyx.trans hz⟩

theorem GoesOn.setRecord {x : Exchange} (h : s.Holds x) : GoesOn s { s with exchange := some x } := by
  obtain ⟨y, hy, hyx⟩ := h
  have hrecord : RecordGoesOn s.exchange (some x) := hy ▸ .some hyx
  exact ⟨{ exchange := hrecord }, { polls := RecordGoesOn.polls (s := s) (t := { s with exchange := some x }) hrecord }⟩

/-- A change of the exchange in place. -/
theorem GoesOn.mapRecord {f : Exchange → Exchange} (h : ∀ x : Exchange, x.GoesOn (f x)) :
    GoesOn s { s with exchange := s.exchange.map f } :=
  have hrecord := RecordGoesOn.map s.exchange h
  ⟨{ exchange := hrecord },
    { polls := RecordGoesOn.polls (s := s) (t := { s with exchange := s.exchange.map f }) hrecord }⟩

/-! ### Watches -/

theorem GoesOn.setWatch {p : Port} {k : WatchNo} {w : Watch} (h : (s.watch p k).GoesOn w) :
    GoesOn s (s.setWatch p k w) := by
  refine ⟨{ watch := fun q j => ?_ }, {}⟩
  rw [State.setWatch_watch]
  split
  next hslot => obtain ⟨rfl, rfl⟩ := hslot; exact h
  · exact .refl _

theorem GoesOn.emptyWatch (s : State) (p : Port) (k : WatchNo) : GoesOn s (s.emptyWatch p k) :=
  GoesOn.setWatch (Watch.goesOn_emptied _)

theorem GoesOn.breakWatches (s : State) (hit : Cover → Bool) {cause : BreakCause} (hcause : cause ≠ .none)
    (spare : Option (Port × WatchNo)) : GoesOn s (s.breakWatches hit cause spare) := by
  have htold := GoesOn.notice s (Quad.ofFn fun p => s.anyWatch p fun k w => !(spare == some (p, k)) && w.notify && w.hitBy hit)
    Sticky.setBroken
  refine htold.trans ⟨{ watch := fun p k => ?_ }, {}⟩
  rw [State.breakWatches_watch]
  split
  · exact .refl _
  · exact Watch.goesOn_breakBy _ hit hcause

theorem GoesOn.ageWatches (s : State) : GoesOn s s.ageWatches := by
  have htold := GoesOn.notice s (Quad.ofFn fun p => s.anyWatch p fun _ w => w.notify && w.expires) Sticky.setBroken
  refine htold.trans ⟨{ watch := fun p k => ?_ }, {}⟩
  show (s.watch p k).GoesOn (((s.watches.map fun q : Quad Watch => q.map Watch.age).get p).get k)
  rw [Quad.get_map, Quad.get_map]
  exact Watch.goesOn_age _

theorem GoesOn.expireWatch (s : State) (p : Port) (k : WatchNo) : GoesOn s (s.expireWatch p k) := by
  have haged : GoesOn s (s.setWatch p k (s.watch p k).age) := GoesOn.setWatch (Watch.goesOn_age _)
  simp only [State.expireWatch]
  exact .ite (.ite (haged.trans (.notice _ _ _)) haged) (.refl s)

/-! ### Entries (R29-R38) -/

theorem GoesOn.setEntry {k : Nat} {e f : Entry} (he : s.entry k = some e) (h : e.GoesOn f) :
    GoesOn s (s.setEntry k (some f)) := by
  refine ⟨{ entry := fun j g hg => ?_ }, {}⟩
  rw [s.setEntry_entry_of_some he]
  split
  next hj =>
    subst hj
    cases he.symm.trans hg
    exact ⟨f, rfl, h⟩
  · exact ⟨g, hg, .refl g⟩

theorem GoesOn.updEntry (s : State) (k : Nat) {f : Entry → Entry} (h : ∀ e : Entry, e.GoesOn (f e)) :
    GoesOn s (s.updEntry k f) := by
  unfold State.updEntry
  split
  · exact .refl s
  next e he => exact .setEntry he (h e)

/-- A change of every entry in use. -/
theorem GoesOn.mapEntries (s : State) {f : Entry → Entry} (h : ∀ e : Entry, e.GoesOn (f e)) :
    GoesOn s { s with table := s.table.map (Option.map f) } := by
  refine ⟨{ entry := fun k e he => ⟨f e, ?_, h e⟩ }, {}⟩
  rw [State.entry_of_table_map (s := s) rfl, he]
  rfl

theorem GoesOn.changeState (s : State) (k : Nat) (state : StationState) : GoesOn s (s.changeState k state) := by
  unfold State.changeState
  split
  · exact .refl s
  next e he =>
    exact .ite (.refl s) ((GoesOn.setEntry he {}).trans (.notice _ _ _))

end

end Sys2Proof.Machine
end

section
/-! SUPPORT. The Arbiter's choice keeps both invariants: on an idle record it walks the cursor, starts an exchange, or
ends a request whose start check fails (R79-R91). -/

namespace Sys2Proof.Machine

open Sys2Proof

/-! ### The poll cycle (R84-R86) -/

theorem Arbiter.advance_pairing (a : Arbiter) : a.advance.pairing = a.pairing := by
  unfold Arbiter.advance
  split <;> rfl

/-- The cursor of an open cycle goes on to the next slot, or the cycle closes (R84, R86). -/
theorem Arbiter.advance_cycleWf (a : Arbiter) (hopen : a.cycleOpen = true) : a.advance.CycleWf false := by
  by_cases hnext : a.cursor + 1 < Config.stationSlots
  · rw [a.advance_next hnext]
    exact ⟨hnext, fun hclosed => absurd (hopen.symm.trans hclosed) nofun, nofun, Nat.zero_le _,
      fun _ => Nat.zero_lt_succ _, by simp⟩
  · rw [a.advance_closes (Nat.le_of_not_lt hnext)]
    exact ⟨Nat.zero_lt_succ _, fun _ => ⟨rfl, rfl⟩, nofun, Nat.zero_le _, fun _ => Nat.zero_lt_succ _, by simp⟩

/-- At the end of a POLL the burst goes on below its limit, and otherwise ends (R85). -/
theorem Arbiter.CycleWf.pollEnded {a : Arbiter} (h : a.CycleWf true) (more : Bool) :
    (a.pollEnded more).CycleWf false := by
  unfold Arbiter.pollEnded
  split
  next hmore =>
    rw [Bool.and_eq_true, decide_eq_true_eq] at hmore
    exact ⟨h.cursor, h.closed, nofun, h.burst, fun _ => hmore.2, h.address⟩
  · exact a.advance_cycleWf (h.polling rfl)

/-- A POLL starts at the cursor of an open cycle: the burst counts it (R84, R85). -/
theorem Arbiter.CycleWf.poll {a : Arbiter} (h : a.CycleWf false) (hopen : a.cycleOpen = true) (address : Byte) :
    ({ a with burstCount := a.burstCount + 1, burstAddress := some address } : Arbiter).CycleWf true :=
  ⟨h.cursor, fun hclosed => absurd (hopen.symm.trans hclosed) nofun, fun _ => hopen, h.rest rfl, nofun, by simp⟩

/-! ### Starts on an idle record -/

section

variable {s : State}

/-- An exchange that is no POLL starts. -/
theorem LimitsGoOn.startExchange (hx : s.exchange = none) {x : Exchange} (hpurpose : x.purpose ≠ .poll) :
    LimitsGoOn s (s.startExchange x) where
  polls := (State.polls_of_exchange rfl).trans ((decide_eq_false hpurpose).trans (State.polls_of_idle hx).symm)
  idle h := LineInterface.give_idle h x.frame

/-- An exchange of the part's own starts. -/
theorem WatchInv.startExchange_internal (h : WatchInv s) (hx : s.exchange = none) {x : Exchange}
    (horigin : x.origin = .internal) : WatchInv (s.startExchange x) := by
  refine (h.slots.of_table (t := s.startExchange x) rfl fun _ _ => .refl _).watchInv (fun y p hy hp => ?_)
    (fun y p k hy hp => ?_) fun p hp => ?_
  · cases hy; cases horigin.symm.trans hp
  · cases hy; cases horigin.symm.trans hp
  · cases (h.unpaired_of_idle hx).symm.trans hp

theorem Keeps.startExchange_internal (hx : s.exchange = none) {x : Exchange} (horigin : x.origin = .internal)
    (hpurpose : x.purpose ≠ .poll) : Keeps s (s.startExchange x) :=
  ⟨fun h => h.startExchange_internal hx horigin, fun h => h.goesOn (.startExchange hx hpurpose)⟩

theorem Keeps.startPoll (hx : s.exchange = none) (hopen : s.arbiter.cycleOpen = true) (e : Entry) :
    Keeps s (s.startPoll e) where
  watch h := by
    have hburst : WatchInv { s with arbiter := { s.arbiter with
        burstCount := s.arbiter.burstCount + 1, burstAddress := some e.address } } := h.goesOn {}
    exact hburst.startExchange_internal hx rfl
  limit h := by
    obtain ⟨hstores, hcycle⟩ := (limitInv_iff s).mp h
    rw [State.polls_of_idle hx] at hcycle
    exact (limitInv_iff _).mpr ⟨⟨LineInterface.give_idle hstores.idle _, hstores.reports, hstores.keys⟩,
      hcycle.poll hopen e.address⟩

theorem Keeps.advance (hx : s.exchange = none) (hopen : s.arbiter.cycleOpen = true) :
    Keeps s { s with arbiter := s.arbiter.advance } where
  watch h := h.goesOn { pairing := fun _ hp => ⟨s.arbiter.advance_pairing.symm.trans hp, List.prefix_rfl⟩ }
  limit h := by
    obtain ⟨hstores, -⟩ := (limitInv_iff s).mp h
    rw [limitInv_iff, State.polls_of_idle (s := { s with arbiter := s.arbiter.advance }) hx]
    exact ⟨⟨hstores.idle, hstores.reports, hstores.keys⟩, s.arbiter.advance_cycleWf hopen⟩

theorem Keeps.walkCursor (fuel : Nat) (hx : s.exchange = none) : Keeps s (State.walkCursor fuel s) := by
  induction fuel generalizing s with
  | zero => exact .refl s
  | succ fuel ih =>
    unfold State.walkCursor
    split
    next hopen =>
      have hadvance : Keeps s (State.walkCursor fuel { s with arbiter := s.arbiter.advance }) :=
        (Keeps.advance hx hopen).trans (ih hx)
      split
      · exact .ite (fun _ => .startPoll hx hopen _) hadvance
      · exact hadvance
    · exact .refl s

theorem Keeps.startService (hx : s.exchange = none) (item : ServiceItem) (rest : List ServiceItem) :
    Keeps s (s.startService item rest) := by
  have hlist : Keeps s { s with arbiter := { s.arbiter with serviceList := rest } } := GoesOn.keeps ⟨{}, {}⟩
  unfold State.startService
  simp only
  split
  · exact hlist
  · split
    all_goals
      refine hlist.trans (.startExchange_internal ?_ ?_ ?_)
      · exact hx
      · rfl
      · nofun

/-! ### The start of a port's request (R90, R91) -/

@[simp] theorem PortUnit.takeHead_reports (u : PortUnit) : u.takeHead.reports = u.reports := by
  unfold PortUnit.takeHead
  split <;> rfl

theorem LimitsGoOn.startRequest (hx : s.exchange = none) (p : Port) (r : Request) {x : Exchange}
    (hpurpose : x.purpose ≠ .poll) : LimitsGoOn s (s.startRequest p r x) where
  polls := (State.polls_of_exchange rfl).trans ((decide_eq_false hpurpose).trans (State.polls_of_idle hx).symm)
  cycle := by rw [State.startRequest_arbiter]; rfl
  idle h := by rw [State.startRequest_line]; exact LineInterface.give_idle h x.frame
  reports q hq := by
    by_cases hqp : q = p
    · subst hqp
      rw [State.startRequest_port_same, PortUnit.takeHead_reports]
      exact hq
    · rw [State.startRequest_port_ne _ hqp]
      exact hq
  keys q hq := by
    have hrouting : (s.startRequest p r x).routing = s.routing := (congrArg State.routing (s.startRequest_rest p r x) :)
    rw [hrouting]
    exact hq

theorem LimitsGoOn.startHead (hx : s.exchange = none) (p : Port) (r : Request) : LimitsGoOn s (s.startHead p r) := by
  unfold State.startHead
  split
  · exact .startRequest hx p r nofun
  · split
    · exact {}
    · split
      · exact {}
      next k _ e _ =>
        split
        · exact .startRequest hx p r nofun
        · split
          · exact .startRequest hx p r nofun
          · have hmarked : GoesOn s (s.updPort p ({ · with headMark := .paired })) := GoesOn.updPort {}
            have hpaired : LimitsGoOn s { s.updPort p ({ · with headMark := .paired }) with
              arbiter := { s.arbiter with pairing := some p } } := hmarked.limits.trans {}
            refine hpaired.trans (.startExchange ?_ ?_)
            · exact hx
            · nofun

/-- The request at the head starts its exchange: it is then in flight, and a READ asks that its port be attached. -/
theorem SlotInv.startRequest (h : SlotInv s) {p : Port} {r : Request} {rest : List Request}
    (hqueue : (s.port p).queue = r :: rest) {x : Exchange} (horigin : x.origin = .port p)
    (hread : x.kind = .read → s.AttachedFor x p) : WatchInv (s.startRequest p r x) := by
  have hslots : SlotInv (s.startRequest p r x) := by
    refine h.of_table (s.startRequest_table p r x) fun q j => ?_
    rw [s.startRequest_watch]
    split
    · exact Watch.goesOn_emptied _
    · exact .refl _
  refine hslots.watchInv (fun y q hy hq => ?flight) (fun y q k hy hq hkind _ _ _ => ?watching) fun q hq => ?pairing
  case flight =>
    cases hy
    cases horigin.symm.trans hq
    rw [State.startRequest_port_same, PortUnit.takeHead_cons _ hqueue]
    rfl
  case watching =>
    cases hy
    cases horigin.symm.trans hq
    obtain ⟨j, e, hj, he, hattached⟩ := hread hkind
    exact ⟨j, e, hj, (State.entry_congr (s.startRequest_table p r x) j).trans he, hattached⟩
  case pairing =>
    rw [State.startRequest_arbiter] at hq
    cases hq

/-- The head stays, PAIRED, while the resync PING is in flight (R91). -/
theorem SlotInv.pair (h : SlotInv s) {p : Port} {r : Request} {rest : List Request}
    (hqueue : (s.port p).queue = r :: rest) (hpairs : r.Pairs) (k : Nat) (e : Entry) : WatchInv (s.pair p k e) := by
  refine (h.of_table (t := s.pair p k e) rfl fun _ _ => .refl _).watchInv (fun y q hy hq => ?_)
    (fun y q j hy hq => ?_) fun q hq => ?_
  · cases hy; cases hq
  · cases hy; cases hq
  · cases hq
    refine ⟨⟨_, rfl, rfl⟩, r, rest, ?_, hpairs⟩
    rw [State.pair_port_same]
    exact hqueue

/-- The head starts or is paired, on an idle record with no pairing. -/
theorem SlotInv.startHead (h : SlotInv s) (hx : s.exchange = none) (hpairing : s.arbiter.pairing = none) {p : Port}
    {r : Request} {rest : List Request} (hqueue : (s.port p).queue = r :: rest) (hpairs : r.isRead = false → r.Pairs)
    (hread : r.isRead = true → ∀ k e, s.slotOf r.top = some k → s.entry k = some e → e.attached.get p = true) :
    WatchInv (s.startHead p r) := by
  unfold State.startHead
  split
  · exact h.startRequest hqueue rfl nofun
  · split
    · exact h.watchInv_idle hx hpairing
    next k hslot =>
      split
      · exact h.watchInv_idle hx hpairing
      next e he =>
        split
        next hr =>
          obtain ⟨f, hf, ha⟩ := s.slotOf_spec hslot
          exact h.startRequest hqueue rfl fun _ => ⟨k, f, rfl, hf, ha, hread hr k f hslot hf⟩
        next hr =>
          split
          · refine h.startRequest hqueue rfl fun hkind => ?_
            simp only [writeExchange] at hkind
            split at hkind <;> cases hkind
          · exact h.pair hqueue (hpairs (Bool.eq_false_of_not_eq_true hr)) k e

/-! ### The end of a queued request (R89, R147) -/

@[simp] theorem PortUnit.endHead_reports (u : PortUnit) (c : Completion) : (u.endHead c).reports = u.reports := by
  unfold PortUnit.endHead
  split <;> rfl

@[simp] theorem PortUnit.endHead_inFlight (u : PortUnit) (c : Completion) : (u.endHead c).inFlight = u.inFlight := by
  unfold PortUnit.endHead
  split <;> rfl

/-- A request that no pairing holds leaves the head of its queue. -/
theorem Keeps.endHead (p : Port) (c : Completion) (hpaired : WatchInv s → s.arbiter.pairing ≠ some p) :
    Keeps s (s.updPort p (·.endHead c)) where
  watch h := by
    refine h.goesOn { flight := fun q hq => ?_, pairing := fun q hq => ⟨hq, ?_⟩ }
    · rw [State.updPort_port]
      split
      next hqp => subst hqp; rw [PortUnit.endHead_inFlight]; exact hq
      · exact hq
    · have hne : q ≠ p := fun hqp => hpaired h (hqp ▸ hq)
      rw [State.updPort_port_ne _ hne]
  limit h := by
    refine h.goesOn { reports := fun q hq => ?_ }
    rw [State.updPort_port]
    split
    next hqp => subst hqp; rw [PortUnit.endHead_reports]; exact hq
    · exact hq

/-! ### The choice (R80, R88, R89) -/

/-- The port that the rotation finds is eligible (R88). -/
theorem rotate_eligible {eligible : Port → Bool} {weight : Port → Nat} {n : Nat} {start p : Port} {u v : Nat}
    (h : rotate eligible weight n start u = some (p, v)) : eligible p = true := by
  induction n generalizing start u with
  | zero => cases h
  | succ n ih =>
    rw [rotate] at h
    split at h
    next hfound =>
      cases h
      exact (Bool.and_eq_true_iff.mp hfound).1
    · exact ih h

theorem Request.pairs_of_isLine {r : Request} (hline : r.isLine = true) (hread : r.isRead = false) : r.Pairs := by
  simp only [Request.isLine, Bool.or_eq_true] at hline
  rcases hline with (hr | hw) | hc
  · cases hread.symm.trans hr
  · exact .inl hw
  · exact .inr hc

/-- A READ that passes its start checks is to a station to which its port is attached (R149). -/
theorem State.startCheck_attached {p : Port} {r : Request} (h : s.startCheck p r = none) (hread : r.isRead = true)
    {k : Nat} {e : Entry} (hslot : s.slotOf r.top = some k) (he : s.entry k = some e) : e.attached.get p = true := by
  have hbroadcast : r.isBroadcast = false := by rw [Request.isBroadcast, Request.isWrite_of_isRead hread, Bool.false_and]
  have hentry : s.entryOf r.top = some e := (s.entryOf_of_slotOf hslot).trans he
  by_contra hnot
  simp only [State.startCheck, hbroadcast, hentry, Bool.eq_false_of_not_eq_true hnot] at h
  split at h <;> cases h

/-- The start checks leave the slot that a CWRITE names in form (R112, R114). -/
theorem GoesOn.checkHead (s : State) (p : Port) (r : Request) : GoesOn s (s.checkHead p r).1 := by
  unfold State.checkHead
  split
  · exact .refl s
  · split
    · simp only [State.watchCheck]
      split
      · exact .emptyWatch s p r.slot
      next harmed =>
        split
        · exact .refl s
        · exact .setWatch (Watch.goesOn_committed (not_not.mp harmed))
    · exact .refl s

theorem State.startCheck_of_checkHead {p : Port} {r : Request} {t : State} (h : s.checkHead p r = (t, none)) :
    s.startCheck p r = none := by
  unfold State.checkHead at h
  split at h
  · cases h
  · assumption

theorem Keeps.choosePort (hx : s.exchange = none) : Keeps s s.choosePort.1 := by
  unfold State.choosePort
  split
  · exact .refl s
  next p u hfound =>
    have hturn : GoesOn s { s with arbiter := { s.arbiter with pointer := p, used := u } } := ⟨{}, {}⟩
    simp only
    split
    · exact hturn.keeps
    next r rest hqueue =>
      have hline : r.isLine = true := ((s.eligible_iff hqueue).mp (rotate_eligible hfound)).1
      have hcheck := GoesOn.checkHead { s with arbiter := { s.arbiter with pointer := p, used := u } } p r
      have honly := State.checkHead_watches { s with arbiter := { s.arbiter with pointer := p, used := u } } p r
      split
      next t status detail heq =>
        rw [heq] at hcheck honly
        have hidle : t.exchange = none := (congrArg State.exchange honly :).trans hx
        refine (hturn.trans hcheck).keeps.trans (.endHead p _ fun h => ?_)
        rw [h.unpaired_of_idle hidle]
        nofun
      next t heq =>
        rw [heq] at hcheck honly
        have hidle : t.exchange = none := (congrArg State.exchange honly :).trans hx
        have hports : t.ports = s.ports := (congrArg State.ports honly :)
        have htable : t.table = s.table := (congrArg State.table honly :)
        refine (hturn.trans hcheck).keeps.trans ⟨fun h => ?_, fun h => h.goesOn (.startHead hidle p r)⟩
        refine h.slots.startHead hidle (h.unpaired_of_idle hidle) (rest := rest) ?_ (Request.pairs_of_isLine hline)
          fun hread k e hslot he => ?_
        · rw [State.port, hports]
          exact hqueue
        · refine State.startCheck_attached (State.startCheck_of_checkHead heq) hread (k := k) ?_ ?_
          · rw [State.slotOf, htable] at hslot
            exact hslot
          · exact (State.entry_congr htable k).symm.trans he

/-- A choice that calls for another leaves the record idle (R89). -/
theorem State.choosePort_again {t : State} (hx : s.exchange = none) (h : s.choosePort = (t, true)) :
    t.exchange = none := by
  unfold State.choosePort at h
  split at h
  · cases h
  next p u _ =>
    simp only at h
    split at h
    · cases h
    next r rest _ =>
      have honly := State.checkHead_watches { s with arbiter := { s.arbiter with pointer := p, used := u } } p r
      split at h
      next heq =>
        rw [heq] at honly
        cases h
        exact (congrArg State.exchange honly :).trans hx
      · cases h

theorem State.chooseOnce_again {t : State} (h : s.chooseOnce = (t, true)) : t.exchange = none := by
  unfold State.chooseOnce at h
  split at h
  · cases h
  · simp only at h
    split at h
    · cases h
    next hx => exact State.choosePort_again hx h

theorem Keeps.chooseOnce (hx : s.exchange = none) : Keeps s s.chooseOnce.1 := by
  unfold State.chooseOnce
  split
  next item rest _ => exact .startService hx item rest
  · have hwalk := Keeps.walkCursor (Config.stationSlots + 1) hx
    simp only
    split
    · exact hwalk
    next hidle => exact hwalk.trans (.choosePort hidle)

theorem Keeps.chooseAll (fuel : Nat) (hx : s.exchange = none) : Keeps s (State.chooseAll fuel s) := by
  induction fuel generalizing s with
  | zero => exact .refl s
  | succ fuel ih =>
    have honce := Keeps.chooseOnce hx
    unfold State.chooseAll
    split
    next heq => rw [heq] at honce; exact honce.trans (ih (State.chooseOnce_again heq))
    next heq => rw [heq] at honce; exact honce

theorem Keeps.choice (s : State) : Keeps s s.choice := .ite (fun h => .chooseAll _ h.1) (.refl s)

end

end Sys2Proof.Machine
end

section
/-! SUPPORT. The changes of the Station Table (R29-R46): with all but one the watch slots go on, and a port that leaves an
entry takes its watches on the station with it (R43, R118). -/

namespace Sys2Proof.Machine

open Sys2Proof

section

variable {s : State}

/-! ### Claims on an entry (R29-R38) -/

theorem GoesOn.createEntry {k : Nat} (hfree : s.freeSlot = some k) (a : Byte) (ports : PortSet) :
    GoesOn s (s.createEntry k a ports) := by
  refine ⟨{ entry := fun j e he => ⟨e, ?_, .refl e⟩ }, {}⟩
  have hne : j ≠ k := by
    rintro rfl
    cases (s.entry_of_freeSlot hfree).symm.trans he
  exact (s.setEntry_entry k j _ (s.lt_of_freeSlot hfree)).trans ((if_neg hne).trans he)

theorem GoesOn.attachClaim (s : State) (p : Port) (a : Byte) : GoesOn s (s.attachClaim p a).1 := by
  unfold State.attachClaim
  cases s.slotOf a with
  | none =>
    cases hfree : s.freeSlot with
    | none => exact .refl s
    | some k => exact .createEntry hfree a _
  | some k =>
    simp only
    split
    · exact .refl s
    next e he =>
      split
      · exact .refl s
      · refine .setEntry he { attached := fun q hq => ?_ }
        rw [Quad.get_set]
        split
        · rfl
        · exact hq

theorem GoesOn.preAttach (s : State) (kept : Byte × PortSet) : GoesOn s (s.preAttach kept) := by
  unfold State.preAttach
  split
  next hfree => exact .createEntry hfree _ _
  · exact .refl s

theorem GoesOn.heard (s : State) (k : Nat) : GoesOn s (s.heard k) := by
  unfold State.heard
  split
  · exact .refl s
  next e he =>
    have hzero : GoesOn s (s.setEntry k (some { e with failures := 0 })) := .setEntry he {}
    split
    · exact hzero
    · exact hzero.trans (.changeState _ k .online)
    · exact .refl s
    · exact .refl s

theorem GoesOn.countFailure {k : Nat} {e : Entry} (he : s.entry k = some e) (sentWrite : Bool) :
    GoesOn s (s.countFailure k e sentWrite) := by
  have hfailed : GoesOn s ((s.setEntry k (some (e.failed s.loader.params sentWrite))).changeState k
      (e.failedState s.loader.params)) := (GoesOn.setEntry he {}).trans (.changeState _ k _)
  rw [s.countFailure_eq]
  exact .ite (hfailed.trans (.breakWatches _ _ (cause := .offline) nofun none)) hfailed

theorem GoesOn.outcomeClaim (s : State) (k : Nat) (x : Exchange) (o : Final) : GoesOn s (s.outcomeClaim k x o) := by
  unfold State.outcomeClaim
  split
  · exact .refl s
  next e he =>
    split
    · split
      · exact .setEntry he {}
      · exact .countFailure he _
      · exact .countFailure he _
      · exact .refl s
    · exact .refl s

theorem GoesOn.probeEnd (s : State) (k : Nat) (o : Final) : GoesOn s (s.probeEnd k o) := by
  unfold State.probeEnd
  split <;> exact (GoesOn.updEntry s k fun _ => {}).trans (.changeState _ k _)

theorem GoesOn.reprobeEnd (s : State) (k : Nat) (o : Final) : GoesOn s (s.reprobeEnd k o) := by
  unfold State.reprobeEnd
  split
  · exact (GoesOn.updEntry s k fun _ => {}).trans (.changeState _ k _)
  · exact .updEntry s k fun _ => {}

theorem GoesOn.tableTakesEnd (s : State) (x : Exchange) (o : Final) : GoesOn s (s.tableTakesEnd x o) := by
  unfold State.tableTakesEnd
  cases x.slot with
  | none => exact .refl s
  | some k =>
    cases x.purpose with
    | probe => exact .probeEnd s k o
    | reprobe => exact .reprobeEnd s k o
    | resync | poll | request => exact .outcomeClaim s k x o

theorem GoesOn.clearChanged (s : State) (p : Port) : GoesOn s (s.clearChanged p) := .mapEntries s fun _ => {}

/-! ### A port that leaves an entry (R43, R44, R118) -/

/-- An attached port leaves: its watches on the station go, and an entry left with no port is freed. -/
theorem State.leaveEntry_of_attached {p : Port} {k : Nat} {e : Entry} (he : s.entry k = some e)
    (hp : e.attached.get p = true) : s.leaveEntry p k
      = if PortSet.isEmpty (e.without p).attached then
          ((s.setEntry k (some (e.without p))).emptyWatchesOn p e.address).freeEntry k
        else (s.setEntry k (some (e.without p))).emptyWatchesOn p e.address := by
  simp only [State.leaveEntry, he, hp, if_true]
  rfl

theorem State.leaveEntry_of_not_attached {p : Port} {k : Nat}
    (h : ∀ e, s.entry k = some e → e.attached.get p = false) : s.leaveEntry p k = s := by
  unfold State.leaveEntry
  split
  · rfl
  next e he => simp [h e he]

theorem State.emptyWatchesOn_watch (s : State) (p : Port) (a : Byte) (q : Port) (j : WatchNo) :
    (s.emptyWatchesOn p a).watch q j = if q = p ∧ (s.watch q j).names a = true then Watch.emptySlot else s.watch q j := by
  simp only [State.emptyWatchesOn, State.watch, Quad.get_set]
  by_cases hq : q = p
  · subst hq
    simp only [if_true, Quad.get_map, true_and]
  · simp only [hq, if_false, false_and]

/-- The exchange of an entry that is freed is orphaned (R45); the record is otherwise as it was. -/
theorem State.leaveEntry_record (s : State) (p : Port) (k : Nat) :
    RecordGoesOn s.exchange (s.leaveEntry p k).exchange := by
  unfold State.leaveEntry
  split
  · exact .refl _
  · split
    · simp only
      split
      · refine RecordGoesOn.map s.exchange fun x => ?_
        split
        · exact { orphan := nofun }
        · exact .refl x
      · exact .refl _
    · exact .refl _

/-- A port that leaves an entry changes only the record, the table, the watches and the service list. -/
theorem State.leaveEntry_rest (s : State) (p : Port) (k : Nat) :
    { s.leaveEntry p k with exchange := s.exchange, table := s.table, watches := s.watches, arbiter := s.arbiter } = s := by
  unfold State.leaveEntry
  split
  · rfl
  · split
    · simp only
      split <;> rfl
    · rfl

theorem State.leaveEntry_arbiter (s : State) (p : Port) (k : Nat) :
    { (s.leaveEntry p k).arbiter with serviceList := s.arbiter.serviceList } = s.arbiter := by
  unfold State.leaveEntry
  split
  · rfl
  · split
    · simp only
      split <;> rfl
    · rfl

theorem State.leaveEntry_ports (s : State) (p : Port) (k : Nat) : (s.leaveEntry p k).ports = s.ports :=
  (congrArg State.ports (s.leaveEntry_rest p k) :)

theorem LimitsGoOn.leaveEntry (s : State) (p : Port) (k : Nat) : LimitsGoOn s (s.leaveEntry p k) := by
  have hrest := s.leaveEntry_rest p k
  have harbiter := s.leaveEntry_arbiter p k
  have hline : (s.leaveEntry p k).line = s.line := (congrArg State.line hrest :)
  have hrouting : (s.leaveEntry p k).routing = s.routing := (congrArg State.routing hrest :)
  refine ⟨(s.leaveEntry_record p k).polls, (congrArg Arbiter.cycle harbiter :), by rw [hline]; exact id, fun q => ?_,
    by rw [hrouting]; exact fun _ => id⟩
  rw [State.port, State.port, s.leaveEntry_ports]
  exact id

/-- Another port, and another entry, keep what they had. -/
theorem State.leaveEntry_entry {p q : Port} {j k : Nat} {f : Entry} (hf : s.entry j = some f)
    (hq : f.attached.get q = true) (hne : j = k → q ≠ p) :
    ∃ g, (s.leaveEntry p k).entry j = some g ∧ g.address = f.address ∧ g.attached.get q = true := by
  by_cases hleaves : ∃ e, s.entry k = some e ∧ e.attached.get p = true
  · obtain ⟨e, he, hp⟩ := hleaves
    have hleft : ∀ i, ((s.setEntry k (some (e.without p))).emptyWatchesOn p e.address).entry i
        = if i = k then some (e.without p) else s.entry i := s.setEntry_entry_of_some he _
    rw [State.leaveEntry_of_attached he hp]
    by_cases hj : j = k
    · subst hj
      cases he.symm.trans hf
      have hstays : (f.without p).attached.get q = true := by
        rw [Entry.without, PortSet.get_remove, if_neg (hne rfl)]
        exact hq
      rw [if_neg (by rw [(PortSet.isEmpty_false_iff _).mpr ⟨q, hstays⟩]; exact Bool.false_ne_true)]
      exact ⟨f.without p, (hleft j).trans (if_pos rfl), rfl, hstays⟩
    · refine ⟨f, ?_, rfl, hq⟩
      split
      · refine (State.setEntry_entry_of_some _ ((hleft k).trans (if_pos rfl)) none j).trans ?_
        rw [if_neg hj, hleft, if_neg hj, hf]
      · rw [hleft, if_neg hj, hf]
  · rw [State.leaveEntry_of_not_attached fun e he => Bool.eq_false_of_not_eq_true fun hp => hleaves ⟨e, he, hp⟩]
    exact ⟨f, hf, rfl, hq⟩

theorem State.leaveEntry_watch (s : State) (p : Port) (k : Nat) (q : Port) (j : WatchNo) :
    (s.watch q j).GoesOn ((s.leaveEntry p k).watch q j) := by
  by_cases hleaves : ∃ e, s.entry k = some e ∧ e.attached.get p = true
  · obtain ⟨e, he, hp⟩ := hleaves
    have hleft : (s.leaveEntry p k).watch q j
        = ((s.setEntry k (some (e.without p))).emptyWatchesOn p e.address).watch q j := by
      rw [State.leaveEntry_of_attached he hp]
      split <;> rfl
    rw [hleft, State.emptyWatchesOn_watch]
    split
    · exact Watch.goesOn_emptied _
    · exact .refl _
  · rw [State.leaveEntry_of_not_attached fun e he => Bool.eq_false_of_not_eq_true fun hp => hleaves ⟨e, he, hp⟩]
    exact .refl _

/-- The port that has left an entry watches nothing on its station (R118). -/
theorem State.leaveEntry_cover {p : Port} {k : Nat} {e : Entry} (he : s.entry k = some e) (hp : e.attached.get p = true)
    {j : WatchNo} {c : Cover} (hc : ((s.leaveEntry p k).watch p j).cover = some c) : c.station ≠ e.address := by
  have hleft : (s.leaveEntry p k).watch p j
      = ((s.setEntry k (some (e.without p))).emptyWatchesOn p e.address).watch p j := by
    rw [State.leaveEntry_of_attached he hp]
    split <;> rfl
  rw [hleft, State.emptyWatchesOn_watch] at hc
  split at hc
  · cases hc
  next hnot =>
    intro ha
    refine hnot ⟨rfl, ?_⟩
    rw [State.setEntry_watch] at hc ⊢
    simp only [Watch.names, hc, ha, beq_self_eq_true]

/-- A port may leave while its own exchange, if one is in flight, is to be discarded (R74, R147). -/
theorem WatchInv.leaveEntry (h : WatchInv s) {p : Port}
    (hown : ∀ x, s.exchange = some x → x.origin = .port p → x.discard = true) (k : Nat) :
    WatchInv (s.leaveEntry p k) := by
  have hslots : SlotInv (s.leaveEntry p k) := by
    refine ⟨fun q j => (s.leaveEntry_watch p k q j).wf (h.slots.wf q j), fun q j c hc => ?_⟩
    obtain ⟨i, f, hf, ha, hq⟩ := h.attached q j c ((s.leaveEntry_watch p k q j).cover c hc)
    obtain ⟨g, hg, hga, hgq⟩ := State.leaveEntry_entry (p := p) (k := k) hf hq (by
      rintro rfl rfl
      exact State.leaveEntry_cover hf hq hc ha.symm)
    exact ⟨i, g, hg, hga.trans ha, hgq⟩
  have hport : ∀ q, (s.leaveEntry p k).port q = s.port q := fun q => congrArg (Quad.get · q) (s.leaveEntry_ports p k)
  have hpairing : (s.leaveEntry p k).arbiter.pairing = s.arbiter.pairing :=
    (congrArg Arbiter.pairing (s.leaveEntry_arbiter p k) :)
  refine h.carry hslots (s.leaveEntry_record p k) (fun q hq => by rw [hport]; exact hq)
    (fun q hq => ⟨hpairing.symm.trans hq, by rw [hport]⟩) fun x q hx hq hdiscard ⟨i, f, hi, hf, ha, hattached⟩ => ?_
  obtain ⟨g, hg, hga, hgq⟩ := State.leaveEntry_entry (p := p) (k := k) hf hattached (by
    rintro - rfl
    cases (hown x hx hq).symm.trans hdiscard)
  exact ⟨i, g, hi, hg, hga.trans ha, hgq⟩

end

end Sys2Proof.Machine
end

section
/-! SUPPORT. Local requests (R133-R139, R147-R160) and submissions (R143, R145) keep both invariants, and so does all that
one change leaves ready (R147, R79). -/

namespace Sys2Proof.Machine

open Sys2Proof

/-! ### FILTER and WAKESET (R133-R139) -/

/-- A key joins a list that has room and does not hold it (R135). -/
theorem Routing.Bounded.addKey {f : Routing} (h : f.Bounded) (k : Key) : (f.addKey k).1.Bounded := by
  unfold Routing.addKey
  split
  · exact h
  next hnew =>
    split
    · exact h
    next hroom =>
      refine ⟨?_, ?_⟩
      · show (f.keys ++ [k]).length ≤ Config.listKeys
        rw [List.length_append, List.length_singleton]
        omega
      · refine List.nodup_append_comm.mp (List.nodup_cons.mpr ⟨?_, h.2⟩)
        rwa [List.contains_iff_mem] at hnew

theorem Routing.Bounded.removeKey {f : Routing} (h : f.Bounded) (k : Key) : (f.removeKey k).1.Bounded := by
  unfold Routing.removeKey
  split
  · exact ⟨(List.length_erase_le).trans h.1, h.2.erase k⟩
  · exact h

theorem Routing.Bounded.of_no_keys {f : Routing} (h : f.keys = []) : f.Bounded := by
  rw [Routing.Bounded, h]
  exact ⟨Nat.zero_le _, List.nodup_nil⟩

theorem Routing.Bounded.filter {f : Routing} (h : f.Bounded) (r : Request) : (f.filter r).1.Bounded := by
  unfold Routing.filter
  split
  · exact h
  · split
    · split <;> exact h
    · split
      · split
        · exact h.addKey _
        · exact h
      · split
        · split
          · exact h.removeKey _
          · exact h
        · split
          · split <;> exact h
          · split
            · split <;> exact h
            · split
              · exact .of_no_keys rfl
              · exact h

theorem Routing.Bounded.wakeset {f : Routing} (h : f.Bounded) (r : Request) : (f.wakeset r).1.Bounded := by
  unfold Routing.wakeset
  split <;> exact h

/-! ### The execution of a local request (R147-R160) -/

/-- From s to t a local request has done its work, its end aside: the ports are as they were. -/
structure LocalWork (s t : State) : Prop where
  keeps : Keeps s t
  ports : t.ports = s.ports

theorem LocalWork.refl (s : State) : LocalWork s s := ⟨.refl s, rfl⟩

theorem GoesOn.localWork {s t : State} (h : GoesOn s t) (hports : t.ports = s.ports := by rfl) : LocalWork s t :=
  ⟨h.keeps, hports⟩

section

variable {s : State}

theorem State.attachClaim_ports (s : State) (p : Port) (a : Byte) : (s.attachClaim p a).1.ports = s.ports := by
  unfold State.attachClaim
  split
  · split <;> rfl
  · split
    · rfl
    · split <;> rfl

theorem LocalWork.doAttach (s : State) (p : Port) (r : Request) : LocalWork s (s.doAttach p r).state := by
  unfold State.doAttach
  split
  · exact .refl s
  · have hclaim := (GoesOn.attachClaim s p r.top).localWork (s.attachClaim_ports p r.top)
    split <;> (next heq => rw [heq] at hclaim; exact hclaim)

/-- A port with no request in flight leaves an entry (R155). -/
theorem LocalWork.leaveEntry {p : Port} (hflight : (s.port p).inFlight = none) (k : Nat) :
    LocalWork s (s.leaveEntry p k) where
  keeps := by
    refine ⟨fun h => h.leaveEntry (fun x hx hp => ?_) k, fun h => h.goesOn (.leaveEntry s p k)⟩
    have hsome := h.flight x p hx hp
    rw [hflight] at hsome
    cases hsome
  ports := s.leaveEntry_ports p k

theorem LocalWork.doDetach {p : Port} (hflight : (s.port p).inFlight = none) (r : Request) :
    LocalWork s (s.doDetach p r).state := by
  unfold State.doDetach
  split
  · exact .refl s
  · split
    · exact .refl s
    · split
      · exact .refl s
      · split
        · exact .leaveEntry hflight _
        · exact .refl s

theorem LocalWork.doRelease (s : State) (p : Port) (r : Request) : LocalWork s (s.doRelease p r).state := by
  unfold State.doRelease
  split
  · exact .refl s
  · exact (GoesOn.emptyWatch s p r.slot).localWork

theorem LocalWork.doQuery (s : State) (p : Port) (r : Request) : LocalWork s (s.doQuery p r).state := by
  unfold State.doQuery
  split
  · exact .refl s
  · split
    · unfold State.doQueryStation
      split
      · split <;> exact .refl s
      · exact .refl s
    · split
      · exact (GoesOn.clearChanged s p).localWork
      · split
        · exact .refl s
        · split <;> exact .refl s

theorem LocalWork.doMark (s : State) (r : Request) : LocalWork s (s.doMark r).state := by
  unfold State.doMark
  split <;> exact .refl s

theorem LocalWork.doLocal {p : Port} (hflight : (s.port p).inFlight = none) (r : Request) :
    LocalWork s (s.doLocal p r).state := by
  have hfilter : LocalWork s (s.doFilter p r).state := (GoesOn.setRouting fun h => h.filter r).localWork
  have hwakeset : LocalWork s (s.doWakeset p r).state := (GoesOn.setRouting fun h => h.wakeset r).localWork
  unfold State.doLocal
  split
  · exact .doAttach s p r
  · split
    · exact .doDetach hflight r
    · split
      · exact .doRelease s p r
      · split
        · exact hfilter
        · split
          · exact hwakeset
          · split
            · exact .doQuery s p r
            · split
              · exact .doMark s r
              · exact .refl s

/-- What makes a local request ready (R147). -/
theorem State.localReady_spec {p : Port} (h : s.localReady p = true) :
    ∃ r rest, (s.port p).queue = r :: rest ∧ r.isLine = false ∧ (s.port p).inFlight = none := by
  rw [State.localReady, Bool.and_eq_true] at h
  obtain ⟨-, h⟩ := h
  split at h
  · cases h
  next r rest hqueue =>
    simp only [Bool.and_eq_true, Bool.not_eq_true', decide_eq_true_eq, Option.isNone_iff_eq_none] at h
    exact ⟨r, rest, hqueue, h.1.1, h.2⟩

theorem Request.Pairs.isLine {r : Request} (h : r.Pairs) : r.isLine = true := by
  rcases h with h | h
  · simp only [Request.isWrite] at h
    simp [Request.isLine, h]
  · simp only [Request.isCwrite] at h
    simp [Request.isLine, h]

/-- A local request is never the head that a pairing holds (R91). -/
theorem WatchInv.not_paired (h : WatchInv s) {p : Port} {r : Request} {rest : List Request}
    (hqueue : (s.port p).queue = r :: rest) (hline : r.isLine = false) : s.arbiter.pairing ≠ some p := by
  intro hp
  obtain ⟨-, r', rest', hqueue', hpairs⟩ := h.pairing p hp
  cases hqueue.symm.trans hqueue'
  cases hline.symm.trans (Request.Pairs.isLine hpairs)

theorem Keeps.executeHead {p : Port} (hready : s.localReady p = true) : Keeps s (s.executeHead p).1 := by
  obtain ⟨r, rest, hqueue, hline, hflight⟩ := State.localReady_spec hready
  have hwork := LocalWork.doLocal hflight r
  simp only [State.executeHead, hqueue]
  split
  next t c heq =>
    rw [heq] at hwork
    refine hwork.keeps.trans (.endHead p c fun h => h.not_paired (r := r) (rest := rest) ?_ hline)
    show (t.ports.get p).queue = _
    rw [show t.ports = s.ports from hwork.ports]
    exact hqueue
  next t _ heq =>
    rw [heq] at hwork
    have hwaits : GoesOn t (t.updPort p ({ · with headMark := .waiting })) := .updPort {}
    exact hwork.keeps.trans hwaits.keeps

/-! ### What stands ready (R147, R79) -/

/-- What is taken first is one of the events that stand ready; only the counter of races moves (log 7). -/
theorem State.takeFirst_spec (s : State) (first : Due) (rest : List Due) :
    (s.takeFirst first rest).1 ∈ first :: rest
      ∧ ((s.takeFirst first rest).2 = s ∨ (s.takeFirst first rest).2 = { s with races := s.races + 1 }) := by
  unfold State.takeFirst
  split
  · exact ⟨List.mem_cons_self, .inl rfl⟩
  · refine ⟨?_, .inr rfl⟩
    have hi : Config.racePick s.races % (rest.length + 1) < (first :: rest).length := Nat.mod_lt _ (Nat.succ_pos _)
    show (first :: rest).getD _ first ∈ _
    rw [List.getD_eq_getElem _ _ hi]
    exact List.getElem_mem hi

theorem State.localReady_of_due {call : Bool} {p : Port} (h : .execute p ∈ s.due call) : s.localReady p = true := by
  rw [State.due, List.mem_append] at h
  rcases h with h | h
  · obtain ⟨q, hq, heq⟩ := List.mem_map.mp h
    cases heq
    exact (List.mem_filter.mp hq).2
  · split at h
    · cases List.mem_singleton.mp h
    · cases h

theorem Keeps.settleAll (fuel : Nat) (call : Bool) (s : State) : Keeps s (State.settleAll fuel call s) := by
  induction fuel generalizing s call with
  | zero => exact .refl s
  | succ fuel ih =>
    unfold State.settleAll
    split
    · exact .refl s
    next first rest hdue =>
      obtain ⟨hmem, hstate⟩ := s.takeFirst_spec first rest
      have hfirst : Keeps s (s.takeFirst first rest).2 := by
        rcases hstate with hsame | hraced
        · rw [hsame]; exact .refl s
        · rw [hraced]; exact GoesOn.keeps ⟨{}, {}⟩
      split
      next p t heq =>
        rw [heq] at hmem hstate hfirst
        have hready : t.localReady p = true := by
          rw [← hdue] at hmem
          rcases hstate with rfl | rfl
          · exact State.localReady_of_due hmem
          · exact (State.localReady_congr (s := s) rfl rfl).trans (State.localReady_of_due hmem)
        exact hfirst.trans ((Keeps.executeHead hready).trans (ih _ _))
      next heq => rw [heq] at hfirst; exact hfirst.trans ((Keeps.choice _).trans (ih _ _))

theorem Keeps.settle (s : State) (call : Bool) : Keeps s (s.settle call) := .settleAll _ call s

/-! ### Submission (R143, R145) -/

theorem GoesOn.commit (s : State) (p : Port) (r : Request) : GoesOn s (s.commit p r).1 := by
  simp only [State.commit]
  split
  · exact .refl s
  · split
    · exact .setPort {}
    · exact .setPort { queue := List.prefix_append _ _ }

theorem GoesOn.voidWord (s : State) (p : Port) : GoesOn s (s.voidWord p) := .ite (.send s p 0) (.refl s)

theorem Keeps.stage (s : State) (p : Port) (w : Word) : Keeps s (s.stage p w) := by
  simp only [State.stage]
  split
  · exact .refl s
  · split
    · have hemptied : GoesOn s (s.updPort p ({ · with staging := [] })) := .updPort {}
      exact (hemptied.trans (.commit _ p _)).keeps.trans (.settle _ _)
    · exact (GoesOn.updPort {}).keeps

theorem Keeps.submitWord (s : State) (p : Port) (w : Word) : Keeps s (s.submitWord p w) :=
  .ite (fun _ => (GoesOn.send s p 0).keeps.trans (.stage _ p w)) (GoesOn.voidWord s p).keeps

theorem Keeps.submitWords (s : State) (p : Port) (ws : List Word) : Keeps s (s.submitWords p ws) :=
  List.foldlRecOn (motive := Keeps s) ws _ (.refl s) fun t ht w _ => ht.trans (.submitWord t p w)

end

end Sys2Proof.Machine
end

section
/-! SUPPORT. The end of an exchange keeps both invariants (R69-R76): each block takes its share of the outcome on an idle
record, and what then stands ready is taken up. -/

namespace Sys2Proof.Machine

open Sys2Proof

section

variable {s : State} {x : Exchange}

/-! ### The shares of the blocks (R70-R73) -/

theorem GoesOn.breaksTakeEnd (s : State) (x : Exchange) (o : Final) : GoesOn s (s.breaksTakeEnd x o) := by
  unfold State.breaksTakeEnd
  split
  · split
    · exact .breakWatches s _ (cause := .write) nofun _
    · exact .breakWatches s _ (cause := .write) nofun _
    · exact .breakWatches s _ (cause := .broadcast) nofun _
    · exact .refl s
  · exact .refl s

/-- A record is queued only where there is room for it (R130). -/
theorem PortUnit.goesOn_routed (u : PortUnit) (r : Routing) (station : Byte) (items : List Item) (gap : Bool) :
    u.GoesOn (u.routed r station items gap) := by
  obtain ⟨f, records, hframe⟩ := u.routed_frame r station items gap
  refine ⟨by rw [hframe], by rw [hframe]; exact id, fun hu => ?_⟩
  simp only [PortUnit.routed]
  split
  · split <;> exact hu
  · split
    all_goals
      split
      next hroom => rw [List.length_append]; exact hroom
      next => exact hu

theorem GoesOn.route (s : State) (k : Nat) (station : Byte) (items : List Item) : GoesOn s (s.route k station items) := by
  unfold State.route
  split
  · exact .refl s
  next e _ =>
    have hbroken := GoesOn.breakWatches s (hitsReport station items) (cause := .report) nofun none
    refine (hbroken.trans (.updPorts fun p => ?_)).trans (.updEntry _ k fun _ => {})
    split
    · exact PortUnit.goesOn_routed _ _ _ _ _
    · exact .refl _

theorem GoesOn.routerTakesEnd (s : State) (x : Exchange) (o : Final) : GoesOn s (s.routerTakesEnd x o) := by
  unfold State.routerTakesEnd
  split
  · exact .route s _ _ _
  · exact .refl s

/-- The port's own slot: a watched READ arms it on a station to which the port is attached (R71, R102). -/
theorem SlotInv.ownWatchTakesEnd (h : SlotInv s) (o : Final)
    (hread : ∀ p k, x.origin = .port p → x.kind = .read → x.watchSlot = some k → s.Attached p x.address) :
    SlotInv (s.ownWatchTakesEnd x o) := by
  unfold State.ownWatchTakesEnd
  split
  next p k horigin hwatch =>
    split
    next hkind =>
      split
      · refine ⟨fun q j => ?_, fun q j c hc => ?_⟩
        · rw [State.setWatch_watch]
          split
          · exact armedWatch_wf _ _ _ _ _
          · exact h.wf q j
        · rw [State.setWatch_watch] at hc
          split at hc
          next hown =>
            obtain ⟨rfl, rfl⟩ := hown
            cases hc
            exact hread q j horigin hkind hwatch
          · exact h.attached q j c hc
      · exact h
    · exact h.goesOn (GoesOn.emptyWatch s p k).slots
    · exact h
  · exact h

theorem LimitsGoOn.ownWatchTakesEnd (s : State) (x : Exchange) (o : Final) :
    LimitsGoOn s (s.ownWatchTakesEnd x o) := by
  unfold State.ownWatchTakesEnd
  split
  · split
    · split <;> exact {}
    · exact {}
    · exact {}
  · exact {}

theorem LimitsGoOn.watchTakesEnd (s : State) (x : Exchange) (o : Final) : LimitsGoOn s (s.watchTakesEnd x o) := by
  have hbreaks := (GoesOn.breaksTakeEnd s x o).limits
  simp only [State.watchTakesEnd]
  split
  · exact hbreaks
  · exact hbreaks.trans (.ownWatchTakesEnd _ x o)

/-- The Watch Unit's share, if a watched READ is from a port attached to its station (R71, R74). -/
theorem SlotInv.watchTakesEnd (h : SlotInv s) (o : Final)
    (hread : ∀ p k, x.origin = .port p → x.kind = .read → x.watchSlot = some k → x.discard = false →
      s.Attached p x.address) : SlotInv (s.watchTakesEnd x o) := by
  have hbreaks := GoesOn.breaksTakeEnd s x o
  simp only [State.watchTakesEnd]
  split
  · exact h.goesOn hbreaks.slots
  next hkeep =>
    refine (h.goesOn hbreaks.slots).ownWatchTakesEnd o fun p k horigin hkind hwatch => ?_
    exact (hread p k horigin hkind hwatch (Bool.eq_false_of_not_eq_true hkeep)).goesOn hbreaks.slots

theorem PortUnit.probeEnded_reports (u : PortUnit) (a : Byte) (state : StationState) :
    (u.probeEnded a state).reports = u.reports := by
  unfold PortUnit.probeEnded
  split
  · split
    · exact u.endHead_reports _
    · rfl
  · rfl

theorem LimitsGoOn.attachesTakeEnd (s : State) (x : Exchange) : LimitsGoOn s (s.attachesTakeEnd x) := by
  unfold State.attachesTakeEnd
  split
  · split
    next e _ =>
      refine { reports := fun p hp => ?_ }
      rw [State.updPorts_port, PortUnit.probeEnded_reports]
      exact hp
    · exact {}
  · exact {}

theorem PortUnit.takesEnd_reports (u : PortUnit) (x : Exchange) (o : Final) : (u.takesEnd x o).reports = u.reports := by
  cases hu : u.inFlight <;> simp only [PortUnit.takesEnd, hu]
  split
  · simp [PortUnit.dropFlight, hu]
  · split <;> simp [PortUnit.dropFlight, PortUnit.endFlight, PortUnit.place, hu]

theorem LimitsGoOn.portTakesEnd (s : State) (x : Exchange) (o : Final) : LimitsGoOn s (s.portTakesEnd x o) := by
  unfold State.portTakesEnd
  split
  next p _ =>
    refine { reports := fun q hq => ?_ }
    rw [State.updPort_port]
    split
    next hqp => subst hqp; rw [PortUnit.takesEnd_reports]; exact hq
    · exact hq
  · exact {}

/-! ### All blocks (R69) -/

/-- The Station Table, the Watch Unit, the Router and the waiting ATTACHes have the outcome, unless the exchange is
orphaned (R70-R72, R75). -/
def State.outcomeTaken (s : State) (x : Exchange) (o : Final) : State :=
  if x.orphan then s.recordIdle
  else (((s.recordIdle.tableTakesEnd x o).watchTakesEnd x o).routerTakesEnd x o).attachesTakeEnd x

theorem State.handEnd_eq (s : State) (x : Exchange) (o : Final) :
    s.handEnd x o = ((s.outcomeTaken x o).arbiterTakesEnd x o).portTakesEnd x o := by
  unfold State.outcomeTaken
  split
  next horphan => exact s.handEnd_orphan x o horphan
  next horphan => exact s.handEnd_not_orphan x o (Bool.eq_false_of_not_eq_true horphan)

theorem State.outcomeTaken_record (s : State) (x : Exchange) (o : Final) :
    (s.outcomeTaken x o).exchange = none ∧ (s.outcomeTaken x o).arbiter = s.arbiter := by
  have hreaches : OutcomeReaches s.recordIdle
      (((s.recordIdle.tableTakesEnd x o).watchTakesEnd x o).routerTakesEnd x o) :=
    ((OutcomeReaches.tableTakesEnd _ x o).trans (.watchTakesEnd _ x o)).trans (.routerTakesEnd _ x o)
  unfold State.outcomeTaken
  split
  · exact ⟨rfl, rfl⟩
  · unfold State.attachesTakeEnd
    split
    · split <;> exact ⟨hreaches.exchange, hreaches.arbiter⟩
    · exact ⟨hreaches.exchange, hreaches.arbiter⟩

theorem State.handEnd_idle (s : State) (x : Exchange) (o : Final) : (s.handEnd x o).exchange = none := by
  have hrecord := (s.outcomeTaken_record x o).1
  rw [s.handEnd_eq]
  unfold State.portTakesEnd State.arbiterTakesEnd
  split <;> split <;> exact hrecord

theorem Arbiter.pollEnded_pairing (a : Arbiter) (more : Bool) : (a.pollEnded more).pairing = a.pairing := by
  unfold Arbiter.pollEnded
  split
  · rfl
  · exact a.advance_pairing

theorem State.handEnd_pairing (s : State) (x : Exchange) (o : Final) :
    (s.handEnd x o).arbiter.pairing = s.arbiter.pairing := by
  have harbiter := (s.outcomeTaken_record x o).2
  have hpoll : ((s.outcomeTaken x o).arbiterTakesEnd x o).arbiter.pairing = s.arbiter.pairing := by
    unfold State.arbiterTakesEnd
    split
    · exact (Arbiter.pollEnded_pairing _ _).trans (congrArg _ harbiter)
    · exact congrArg _ harbiter
  rw [s.handEnd_eq]
  unfold State.portTakesEnd
  split <;> exact hpoll

theorem WatchInv.slots_outcomeTaken (h : WatchInv s) (hx : s.Holds x) (o : Final) : SlotInv (s.outcomeTaken x o) := by
  obtain ⟨y, hy, hyx⟩ := hx
  have hidle : SlotInv s.recordIdle := h.slots.of_table rfl fun _ _ => .refl _
  have htable := GoesOn.tableTakesEnd s.recordIdle x o
  unfold State.outcomeTaken
  split
  · exact hidle
  next horphan =>
    have hwatched : SlotInv ((s.recordIdle.tableTakesEnd x o).watchTakesEnd x o) := by
      refine (hidle.goesOn htable.slots).watchTakesEnd o fun p k horigin hkind hwatch hdiscard => ?_
      obtain ⟨j, e, -, he, ha, hp⟩ := h.watching y p k hy (hyx.origin.symm.trans horigin) (hyx.kind.symm.trans hkind)
        (hyx.watchSlot.symm.trans hwatch) (hyx.orphan (Bool.eq_false_of_not_eq_true horphan)) (hyx.discard hdiscard)
      have hattached : s.recordIdle.Attached p x.address := ⟨j, e, he, ha.trans hyx.address.symm, hp⟩
      exact hattached.goesOn htable.slots
    refine (hwatched.goesOn (GoesOn.routerTakesEnd _ x o).slots).of_table (State.attachesTakeEnd_table _ x) fun q j => ?_
    rw [State.watch_congr (State.attachesTakeEnd_watches _ x)]
    exact .refl _

theorem WatchInv.slots_handEnd (h : WatchInv s) (hx : s.Holds x) (o : Final) : SlotInv (s.handEnd x o) := by
  refine (h.slots_outcomeTaken hx o).of_table ?_ fun q j => ?_
  · rw [s.handEnd_eq, State.portTakesEnd_table, State.arbiterTakesEnd_table]
  · rw [s.handEnd_eq, State.portTakesEnd_watch, State.watch_congr (State.arbiterTakesEnd_watches _ x o)]
    exact .refl _

theorem LimitsGoOn.outcomeTaken (s : State) (x : Exchange) (o : Final) :
    LimitsGoOn s.recordIdle (s.outcomeTaken x o) := by
  unfold State.outcomeTaken
  split
  · exact {}
  · exact (((GoesOn.tableTakesEnd _ x o).limits.trans (.watchTakesEnd _ x o)).trans
      (GoesOn.routerTakesEnd _ x o).limits).trans (.attachesTakeEnd _ x)

/-- The end of a POLL counts the burst or ends it (R85); no other end touches the poll cycle. -/
theorem LimitInv.handEnd (h : LimitInv s) (hx : s.Holds x) (o : Final) : LimitInv (s.handEnd x o) := by
  obtain ⟨y, hy, hyx⟩ := hx
  obtain ⟨hstores, hcycle⟩ := (limitInv_iff s).mp h
  have htaken := LimitsGoOn.outcomeTaken s x o
  have hidle : StoreInv s.recordIdle := ⟨hstores.idle, hstores.reports, hstores.keys⟩
  have hkept := hidle.goesOn htaken
  have hnone := (s.outcomeTaken_record x o).1
  rw [State.polls_of_exchange hy, ← hyx.purpose] at hcycle
  replace hcycle := hcycle.of_cycle htaken.cycle
  rw [s.handEnd_eq]
  refine LimitInv.goesOn ((limitInv_iff _).mpr ?_) (.portTakesEnd _ x o)
  unfold State.arbiterTakesEnd
  split
  next hpoll =>
    rw [hpoll] at hcycle
    rw [State.polls_of_idle (by exact hnone)]
    exact ⟨⟨hkept.idle, hkept.reports, hkept.keys⟩, hcycle.pollEnded _⟩
  next hpoll =>
    rw [decide_eq_false (by exact hpoll)] at hcycle
    rw [State.polls_of_idle hnone]
    exact ⟨hkept, hcycle⟩

/-- A pairing at the end of an exchange is the resync's own, with its request still at the head (R91). -/
theorem WatchInv.handEnd_paired (h : WatchInv s) (hx : s.Holds x) (o : Final) {p : Port}
    (hp : (s.handEnd x o).arbiter.pairing = some p) :
    x.purpose = .resync ∧ ∃ r rest, ((s.handEnd x o).port p).queue = r :: rest ∧ r.Pairs := by
  obtain ⟨y, hy, hyx⟩ := hx
  obtain ⟨⟨z, hz, hresync⟩, r, rest, hqueue, hpairs⟩ := h.pairing p ((s.handEnd_pairing x o).symm.trans hp)
  cases hy.symm.trans hz
  have hpurpose := hyx.purpose.trans hresync
  obtain ⟨t, hreaches, heq⟩ := s.handEnd_reaches x o (by simp [hpurpose]) (by simp [hpurpose])
  obtain ⟨f, records, hport⟩ := hreaches.port p
  have hkept : (t.port p).queue = r :: rest := by rw [hport]; exact hqueue
  refine ⟨hpurpose, r, rest, ?_, hpairs⟩
  rw [heq]
  unfold State.portTakesEnd
  split
  · rw [State.updPort_port]
    split
    next hpq => rw [PortUnit.takesEnd_queue, ← hpq]; exact hkept
    · exact hkept
  · exact hkept

/-! ### The paired request (R92, R93) -/

/-- The pairing cleared. -/
def State.unpaired (s : State) : State := { s with arbiter := { s.arbiter with pairing := none } }

theorem LimitsGoOn.unpaired (s : State) : LimitsGoOn s s.unpaired := {}

theorem SlotInv.unpaired (h : SlotInv s) (hx : s.exchange = none) : WatchInv s.unpaired :=
  (h.of_table (t := s.unpaired) rfl fun _ _ => .refl _).watchInv_idle hx rfl

theorem State.startPaired_eq (s : State) (p : Port) : s.startPaired p = match (s.port p).queue with
    | [] => s.unpaired
    | r :: _ => s.unpaired.startHead p r := rfl

theorem SlotInv.startPaired (h : SlotInv s) (hx : s.exchange = none) {p : Port} {r : Request} {rest : List Request}
    (hqueue : (s.port p).queue = r :: rest) (hpairs : r.Pairs) : WatchInv (s.startPaired p) := by
  rw [s.startPaired_eq, hqueue]
  have hidle := h.unpaired hx
  refine hidle.slots.startHead hx rfl hqueue (fun _ => hpairs) fun hread => ?_
  rcases hpairs with hwrite | hcwrite
  · rw [Request.isWrite_of_isRead hread] at hwrite
    cases hwrite
  · rw [Request.isRead, beq_iff_eq] at hread
    rw [Request.isCwrite, hread] at hcwrite
    cases hcwrite

theorem LimitsGoOn.startPaired (hx : s.exchange = none) (p : Port) : LimitsGoOn s (s.startPaired p) := by
  rw [s.startPaired_eq]
  split
  · exact .unpaired s
  · exact (LimitsGoOn.unpaired s).trans (.startHead (s := s.unpaired) hx p _)

/-- Once its pairing is cleared, what is left of a failed request only goes on or leaves its queue. -/
theorem Keeps.failPaired (s : State) (p : Port) (attempts : Nat) : Keeps s.unpaired (s.failPaired p attempts) := by
  simp only [State.failPaired]
  split
  · exact .refl _
  next r rest hqueue =>
    have hslot : GoesOn s.unpaired (if r.isCwrite then s.unpaired.emptyWatch p r.slot else s.unpaired) :=
      .ite (.emptyWatch _ p r.slot) (.refl _)
    refine hslot.keeps.trans (.endHead p _ fun _ hp => ?_)
    have hnone : (if r.isCwrite then s.unpaired.emptyWatch p r.slot else s.unpaired).arbiter.pairing = none := by
      split <;> rfl
    cases hnone.symm.trans hp

theorem Keeps.originExecutes (s : State) (x : Exchange) : Keeps s (s.originExecutes x) := by
  unfold State.originExecutes
  split
  · exact .ite (fun hready => .executeHead hready) (.refl s)
  · exact .refl s

/-- The end of the exchange in the record, and all that it leaves ready (R69). -/
theorem Keeps.endExchange (hx : s.Holds x) (o : Final) : Keeps s (s.endExchange x o) := by
  have hidle := s.handEnd_idle x o
  simp only [State.endExchange]
  split
  next p _ hp =>
    split
    · refine Keeps.trans ⟨fun h => ?_, fun h => (h.handEnd hx o).goesOn (.startPaired hidle p)⟩ (.settle _ false)
      obtain ⟨-, r, rest, hqueue, hpairs⟩ := h.handEnd_paired hx o hp
      exact (h.slots_handEnd hx o).startPaired hidle hqueue hpairs
    · have hunpaired : Keeps s (s.handEnd x o).unpaired :=
        ⟨fun h => (h.slots_handEnd hx o).unpaired hidle, fun h => (h.handEnd hx o).goesOn (.unpaired _)⟩
      exact ((hunpaired.trans (.failPaired _ p _)).trans (.choice _)).trans (.settle _ false)
  next hother =>
    refine Keeps.trans ⟨fun h => ?_, fun h => h.handEnd hx o⟩ ((Keeps.originExecutes _ x).trans (.settle _ true))
    refine (h.slots_handEnd hx o).watchInv_idle hidle ?_
    cases hp : (s.handEnd x o).arbiter.pairing with
    | none => rfl
    | some p => exact absurd hp (hother p (h.handEnd_paired hx o hp).1)

/-! ### Attempts and replies (R54-R68) -/

theorem Keeps.setRecord (hx : s.Holds x) : Keeps s { s with exchange := some x } := (GoesOn.setRecord hx).keeps

theorem Keeps.retry (hx : s.Holds x) : Keeps s (s.retry x) := by
  have hrecord : GoesOn s { s with exchange := some { x with attempt := x.attempt + 1, phase := .sending } } :=
    .setRecord (hx.goesOn {})
  exact (hrecord.trans (.setLine fun h => LineInterface.give_idle h x.frame)).keeps

theorem Keeps.await (hx : s.Holds x) : Keeps s (s.await x) := .setRecord (hx.goesOn {})

theorem Keeps.failAttempt (hx : s.Holds x) (f : Failure) : Keeps s (s.failAttempt x f) := by
  simp only [State.failAttempt]
  split
  · exact .ite (fun _ => .retry (hx.goesOn {})) (.setRecord (hx.goesOn {}))
  · exact .endExchange (hx.goesOn {}) _

theorem Keeps.sendDone (s : State) : Keeps s s.sendDone := by
  unfold State.sendDone
  split
  · exact .refl s
  next x hx =>
    have hholds := State.holds_of_exchange hx
    split
    · split
      · exact .ite (fun _ => .endExchange hholds _) (.setRecord (hholds.goesOn {}))
      · exact .await hholds
    · exact .refl s

theorem Keeps.frameBegun (s : State) : Keeps s s.frameBegun := by
  unfold State.frameBegun
  split
  · exact .refl s
  next x hx => exact .ite (fun _ => .setRecord ((State.holds_of_exchange hx).goesOn {})) (.refl s)

theorem Keeps.replyExpired (s : State) : Keeps s s.replyExpired := by
  unfold State.replyExpired
  split
  · exact .refl s
  next x hx => exact .ite (fun _ => .failAttempt (State.holds_of_exchange hx) _) (.refl s)

theorem Keeps.holdoffExpired (s : State) : Keeps s s.holdoffExpired := by
  unfold State.holdoffExpired
  split
  · exact .refl s
  next x hx => exact .ite (fun _ => .endExchange (State.holds_of_exchange hx) _) (.refl s)

theorem Keeps.takeAnswer (hx : s.Holds x) (index : Nat) (values : List Half) (more : Bool) :
    Keeps s (s.takeAnswer x index values more) := by
  by_cases hbad : x.BadFragment index values more
  · rw [s.takeAnswer_bad x index values more hbad]
    exact .failAttempt hx _
  · rw [s.takeAnswer_good x index values more hbad]
    exact .ite (fun _ => .await (hx.goesOn {})) (.endExchange hx _)

theorem Keeps.takeRefuse (hx : s.Holds x) (reason : RefuseReason) : Keeps s (s.takeRefuse x reason) := by
  by_cases hbusy : reason = .busy
  · subst hbusy
    exact .failAttempt hx _
  · rw [s.takeRefuse_of_ne_busy x reason hbusy]
    exact .endExchange hx _

theorem Keeps.takeReply (hx : s.Holds x) (reply : Reply) : Keeps s (s.takeReply x reply) := by
  rcases s.takeReply_cases x reply with heq | ⟨reason, heq⟩ | ⟨index, values, more, heq⟩ | ⟨o, heq⟩ <;> rw [heq]
  · exact .failAttempt hx .protocol
  · exact .takeRefuse hx reason
  · exact .takeAnswer hx index values more
  · exact .endExchange hx o

theorem Keeps.takeValid (hx : s.Holds x) (source : Byte) (reply : Reply) : Keeps s (s.takeValid x source reply) := by
  simp only [State.takeValid]
  split
  · exact .failAttempt hx _
  · split
    next k _ _ =>
      refine (GoesOn.heard s k).keeps.trans (.takeReply ?_ reply)
      rw [State.Holds, State.heard_exchange]
      exact hx
    · exact .takeReply hx reply

theorem Keeps.frameEnded (s : State) (report : FrameReport) : Keeps s (s.frameEnded report) := by
  by_cases hphase : ∀ x, s.exchange = some x → x.phase ≠ .receiving
  · rw [s.frameEnded_elsewhere report hphase]
    exact .refl s
  · push Not at hphase
    obtain ⟨x, hx, hphase⟩ := hphase
    have hholds := State.holds_of_exchange hx
    rw [s.frameEnded_receiving x report hx hphase]
    cases report with
    | garbled cause => exact .failAttempt hholds _
    | ignored => exact .await hholds
    | malformed source => exact .failAttempt hholds _
    | valid source reply => exact .takeValid hholds source reply

end

end Sys2Proof.Machine
end

section
/-! SUPPORT. The field line, start-up, the control operations and slow time keep both invariants, and with them every
command does. -/

namespace Sys2Proof.Machine

open Sys2Proof

section

variable {s : State}

/-! ### The field line (R1-R9) -/

theorem Keeps.setRx (s : State) (rx : Receiver) : Keeps s (s.setRx rx) := GoesOn.keeps ⟨{}, {}⟩

theorem Keeps.takeCharacter (s : State) (data : Byte) (fault : Bool) : Keeps s (s.takeCharacter data fault) := by
  have hbegun : Keeps s (if s.line.rx = .hunting then s.frameBegun else s) := .ite (fun _ => .frameBegun s) (.refl s)
  simp only [State.takeCharacter]
  split
  · exact hbegun.trans ((Keeps.setRx _ .discarding).trans (.frameEnded _ _))
  · exact hbegun.trans (.setRx _ _)

theorem Keeps.confirmFrame (s : State) : Keeps s s.confirmFrame := by
  unfold State.confirmFrame
  split
  · exact .refl s
  · exact .refl s
  · exact (Keeps.setRx s .hunting).trans (.frameEnded _ _)
  · exact (Keeps.setRx s .hunting).trans (.frameEnded _ _)
  · exact .setRx s .hunting

/-- The idle count holds at 44 (R2). -/
theorem LineInterface.elapse_idle (l : LineInterface) (n : Nat) : (l.elapse n).idle ≤ Config.frameGap := by
  unfold LineInterface.elapse
  split
  · exact Nat.zero_le _
  · exact Nat.min_le_left _ _

theorem Keeps.elapse (s : State) (n : Nat) : Keeps s (s.elapse n) := by
  have hline : GoesOn s { s with line := s.line.elapse n } := .setLine fun _ => s.line.elapse_idle n
  exact (hline.trans (.mapRecord (f := (·.elapse n)) fun _ => {})).keeps

theorem Keeps.lapse (s : State) (n : Nat) : Keeps s (s.lapse n) := by
  simp only [State.lapse]
  exact .ite (fun _ => (Keeps.elapse s n).trans (.confirmFrame _)) (.elapse s n)

theorem Keeps.transmit (s : State) : Keeps s s.transmit := by
  unfold State.transmit
  split
  · exact .ite (fun _ => (GoesOn.setLine fun _ => Nat.zero_le _).keeps) (.refl s)
  · exact .refl s

theorem Keeps.gapEnds (s : State) : Keeps s s.gapEnds := by
  unfold State.gapEnds
  split
  next x hx => exact .ite (fun _ => .retry (State.holds_of_exchange hx)) (.refl s)
  · exact .refl s

theorem Keeps.completeSend (s : State) : Keeps s s.completeSend := by
  have hrelease : GoesOn s { s with line := s.line.release } := .setLine fun _ => Nat.zero_le _
  exact hrelease.keeps.trans (.sendDone _)

theorem Keeps.bitTime (s : State) : Keeps s s.bitTime := by
  unfold State.bitTime
  split
  · split
    · exact GoesOn.keeps ⟨{}, {}⟩
    · exact .completeSend s
    · have hreply : Keeps s (if (s.lapse 1).replyLeft = some 0 then (s.lapse 1).replyExpired else s.lapse 1) :=
        (Keeps.lapse s 1).trans (.ite (fun _ => .replyExpired _) (.refl _))
      refine hreply.trans (Keeps.trans ?_ ((Keeps.gapEnds _).trans (.transmit _)))
      exact .ite (fun _ => .holdoffExpired _) (.refl _)
  · exact .refl s

theorem Keeps.duringCharacter (s : State) (stop : Bool) : Keeps s (s.duringCharacter stop) := by
  have hline : GoesOn s { s with line := { s.line with idle := 0, low := !stop } } := .setLine fun _ => Nat.zero_le _
  exact (hline.trans (.mapRecord
    (f := fun x => { x with holdoffTimer := x.holdoffTimer.map fun n => n - Config.characterBits }) fun _ => {})).keeps

/-! ### Start-up (R30, R182-R190) -/

/-- The line enabled and the time base started (R9, R95). -/
theorem GoesOn.resumed (s : State) : GoesOn s s.resumed := ⟨{}, { idle := fun _ => Nat.zero_le _ }⟩

theorem Keeps.applyLoad (s : State) (image : List Byte) (bus : List BusOp) (j : Judgement) :
    Keeps s (s.applyLoad image bus j) := by
  have hloaded : GoesOn s { s with loader := Loader.finished image bus j } := ⟨{}, {}⟩
  have hkept : GoesOn s (j.kept.foldl (fun s kept => s.preAttach kept) { s with loader := Loader.finished image bus j }) :=
    List.foldlRecOn (motive := GoesOn s) _ _ hloaded fun t ht kept _ => ht.trans (.preAttach t kept)
  simp only [State.applyLoad]
  exact (hkept.trans ((GoesOn.updPorts fun _ => {}).trans (.resumed _))).keeps

/-- With every slot EMPTY, on an idle record with no pairing. -/
theorem watchInv_of_cleared (hwatches : s.watches = Quad.fill (Quad.fill Watch.emptySlot)) (hx : s.exchange = none)
    (hpairing : s.arbiter.pairing = none) : WatchInv s := by
  have hempty : ∀ p k, s.watch p k = Watch.emptySlot := fun p k => by
    rw [State.watch, hwatches, Quad.get_fill, Quad.get_fill]
  refine SlotInv.watchInv_idle ⟨fun p k => ?_, fun p k c hc => ?_⟩ hx hpairing
  · rw [hempty]
    exact Watch.emptySlot_wf
  · rw [hempty] at hc
    cases hc

theorem Arbiter.reset_cycleWf : Arbiter.reset.CycleWf false :=
  ⟨by decide, fun _ => ⟨rfl, rfl⟩, nofun, Nat.zero_le _, fun _ => by decide, by decide⟩

theorem Keeps.restart (s : State) : Keeps s s.restart where
  watch _ := watchInv_of_cleared rfl rfl rfl
  limit h := by
    obtain ⟨hstores, -⟩ := (limitInv_iff s).mp h
    refine (limitInv_iff _).mpr ⟨⟨Nat.zero_le _, fun p => ?_, hstores.keys⟩, Arbiter.reset_cycleWf.of_cycle rfl⟩
    show ((s.ports.map PortUnit.restart).get p).reports.length ≤ _
    rw [Quad.get_map]
    exact Nat.zero_le _

theorem execPowerOnReset_watchInv (t : State) (h : execPowerOnReset s = .next t) : WatchInv t := by
  cases h
  exact watchInv_of_cleared rfl rfl rfl

theorem execPowerOnReset_limitInv (t : State) (h : execPowerOnReset s = .next t) : LimitInv t := by
  cases h
  refine (limitInv_iff _).mpr ⟨⟨Nat.zero_le _, fun p => ?_, fun p => .of_no_keys ?_⟩, Arbiter.reset_cycleWf⟩
  · show ((s.ports.map fun u : PortUnit => { PortUnit.reset with link := u.link.resetting }).get p).reports.length ≤ _
    rw [Quad.get_map]
    exact Nat.zero_le _
  · show ((Quad.fill Routing.cleared).get p).keys = []
    rw [Quad.get_fill]
    rfl

/-! ### Control operations (R167-R172) -/

/-- The exchange of a port that closes is to be discarded (R74). -/
theorem Exchange.goesOn_closedBy (x : Exchange) (p : Port) : x.GoesOn (x.closedBy p) := by
  unfold Exchange.closedBy
  split
  · exact { discard := nofun }
  · exact .refl x

/-- A CLOSE at all blocks but the Station Table and the Report Router (R74, R94, R119, R170). -/
def State.closed (s : State) (p : Port) : State :=
  (State.updPort { s with
    exchange := s.exchange.map fun x : Exchange => x.closedBy p
    arbiter := { s.arbiter with pairing := if s.arbiter.pairing = some p then none else s.arbiter.pairing } }
    p PortUnit.closes).emptyWatches p

theorem State.closePort_eq (s : State) (p : Port) :
    s.closePort p = ((s.closed p).leaveAll p).setRouting p Routing.cleared := rfl

theorem State.closed_port (s : State) (p q : Port) :
    (s.closed p).port q = if q = p then (s.port p).closes else s.port q := by
  show ((s.ports.set p _).get q) = _
  rw [Quad.get_set]
  rfl

theorem State.closed_watch (s : State) (p q : Port) (j : WatchNo) :
    (s.closed p).watch q j = if q = p then Watch.emptySlot else s.watch q j := by
  show ((s.watches.set p (Quad.fill Watch.emptySlot)).get q).get j = _
  rw [Quad.get_set]
  split
  · rw [Quad.get_fill]
  · rfl

theorem GoesOn.closed (s : State) (p : Port) : GoesOn s (s.closed p) := by
  have hrecord : RecordGoesOn s.exchange (s.closed p).exchange := .map _ fun x => x.goesOn_closedBy p
  refine ⟨⟨hrecord, fun _ e he => ⟨e, he, .refl e⟩, fun q j => ?watch, fun q hq => ?flight, fun q hq => ?pairing⟩,
    { polls := hrecord.polls, reports := fun q hq => ?reports }⟩
  case watch =>
    rw [State.closed_watch]
    split
    · exact Watch.goesOn_emptied _
    · exact .refl _
  case flight =>
    rw [State.closed_port]
    split
    next hqp => subst hqp; exact hq
    · exact hq
  case pairing =>
    have hpairing : (if s.arbiter.pairing = some p then none else s.arbiter.pairing) = some q := hq
    split at hpairing
    · cases hpairing
    next hother =>
      refine ⟨hpairing, ?_⟩
      rw [State.closed_port, if_neg]
      rintro rfl
      exact hother hpairing
  case reports =>
    rw [State.closed_port]
    split
    · exact Nat.zero_le _
    · exact hq

/-- The port's own exchange, if one is in flight, is to be discarded (R74). -/
def State.OwnDiscarded (s : State) (p : Port) : Prop := ∀ x, s.exchange = some x → x.origin = .port p → x.discard = true

theorem State.closed_ownDiscarded (s : State) (p : Port) : (s.closed p).OwnDiscarded p := by
  intro x hx horigin
  obtain ⟨y, -, rfl⟩ := Option.map_eq_some_iff.mp hx
  unfold Exchange.closedBy at horigin ⊢
  split
  · rfl
  next hother => rw [if_neg hother] at horigin; exact absurd horigin hother

theorem State.OwnDiscarded.leaveEntry {p : Port} (h : s.OwnDiscarded p) (k : Nat) :
    (s.leaveEntry p k).OwnDiscarded p := by
  intro y hy horigin
  obtain ⟨x, hx, hxy⟩ := RecordGoesOn.of_some (hy ▸ s.leaveEntry_record p k)
  by_contra hkeep
  cases (h x hx (hxy.origin.symm.trans horigin)).symm.trans (hxy.discard (Bool.eq_false_of_not_eq_true hkeep))

theorem Keeps.leaveAll {p : Port} (hown : s.OwnDiscarded p) : Keeps s (s.leaveAll p) := by
  have hleft : Keeps s (s.leaveAll p) ∧ (s.leaveAll p).OwnDiscarded p := by
    refine List.foldlRecOn (motive := fun t : State => Keeps s t ∧ t.OwnDiscarded p) _ _ ⟨.refl s, hown⟩
      fun t ht k _ => ?_
    obtain ⟨hkeeps, hdiscarded⟩ := ht
    exact ⟨hkeeps.trans ⟨fun h => h.leaveEntry hdiscarded k, fun h => h.goesOn (.leaveEntry t p k)⟩,
      hdiscarded.leaveEntry k⟩
  exact hleft.1

theorem Keeps.closePort (s : State) (p : Port) : Keeps s (s.closePort p) := by
  rw [s.closePort_eq]
  exact ((GoesOn.closed s p).keeps.trans (.leaveAll (s.closed_ownDiscarded p))).trans
    (GoesOn.setRouting fun _ => .of_no_keys rfl).keeps

theorem Keeps.control (s : State) (p : Port) (op : ControlOp) (flags : Byte) : Keeps s (s.control p op flags) := by
  cases op with
  | close => exact .closePort s p
  | openPort | doze | wakeup | clear | mask | force =>
    unfold State.control
    refine (GoesOn.updPort ?_).keeps
    exact {}

theorem Keeps.takeControlWord (s : State) (p : Port) (w : Word) : Keeps s (s.takeControlWord p w) := by
  have hsend := (GoesOn.send s p 0).keeps
  simp only [State.takeControlWord]
  split
  · split
    · exact hsend.trans (.ite (fun _ => .control _ p _ _) (.refl _))
    · exact hsend
  · exact (GoesOn.voidWord s p).keeps

/-! ### Transactions (R142, R164, R178) -/

/-- A word of a TAKE takes at most a record from its queue (R164). -/
theorem PortUnit.goesOn_takeCompletionWord (u : PortUnit) : u.GoesOn u.takeCompletionWord.1 := by
  unfold PortUnit.takeCompletionWord
  split
  · exact .refl u
  · split
    · exact {}
    · simp only
      split <;> exact {}

theorem PortUnit.goesOn_takeReportWord (u : PortUnit) : u.GoesOn u.takeReportWord.1 := by
  unfold PortUnit.takeReportWord
  split
  · exact .refl u
  · split
    · exact {}
    next r rest hreports =>
      simp only
      split
      · exact {}
      · refine { reports := fun hu => (Nat.le_succ _).trans ?_ }
        rw [hreports] at hu
        exact hu

theorem Keeps.takeWord {p : Port} {c : Channel} {take : PortUnit → PortUnit × Word}
    (htake : (s.port p).GoesOn (take (s.port p)).1) : Keeps s (s.takeWord p c take) := by
  simp only [State.takeWord]
  exact .ite (fun _ => ((GoesOn.setPort htake).trans (.send _ p _)).keeps) (GoesOn.voidWord s p).keeps

/-! ### Slow time (R35, R95, R110) -/

theorem Keeps.appendReprobe (s : State) (k : Nat) : Keeps s (s.appendReprobe k) := by
  unfold State.appendReprobe
  split
  · exact .refl s
  · exact .ite (fun _ => GoesOn.keeps ⟨{}, {}⟩) (.refl s)

/-- A cycle that opens begins at slot 0 with no burst (R84, R96). -/
theorem Keeps.openCycle (s : State) : Keeps s { s with arbiter := s.arbiter.openCycle } where
  watch h := h.goesOn {}
  limit h := by
    obtain ⟨hstores, hcycle⟩ := (limitInv_iff s).mp h
    refine (limitInv_iff _).mpr ⟨⟨hstores.idle, hstores.reports, hstores.keys⟩, ?_⟩
    exact ⟨Nat.zero_lt_succ _, nofun, fun _ => rfl, Nat.zero_le _, fun _ => Nat.zero_lt_succ _, by simp [Arbiter.openCycle]⟩

theorem Keeps.pollEvent (s : State) (e : PollEvent) : Keeps s (s.pollEvent e) := by
  cases e with
  | reprobe k => exact (Keeps.appendReprobe s k).trans (.settle _ true)
  | cycle => exact (Keeps.openCycle s).trans (.settle _ true)

theorem Keeps.pollEvents (n : Nat) (events : List PollEvent) (s : State) : Keeps s (State.pollEvents n events s) := by
  induction n generalizing s events with
  | zero => exact .refl s
  | succ n ih =>
    have hraced : Keeps s { s with races := s.races + 1 } := GoesOn.keeps ⟨{}, {}⟩
    unfold State.pollEvents
    split
    · exact .refl s
    · exact .pollEvent s _
    · exact hraced.trans ((Keeps.pollEvent _ _).trans (ih _ _))

theorem GoesOn.ticked (s : State) : GoesOn s s.ticked := by
  have hreload : GoesOn s s.reloadPollTimer := ⟨{}, {}⟩
  have hcounted : GoesOn s { s.reloadPollTimer.ageWatches with table := s.table.map countDown } := by
    refine (hreload.trans (.ageWatches _)).trans (.mapEntries _ (f := fun e =>
      if e.counting then { e with countdown := e.countdown - 1 } else e) fun e => ?_)
    split
    · exact {}
    · exact .refl e
  refine .ite (hcounted.trans ?_) hcounted
  have hcount : GoesOn { s.reloadPollTimer.ageWatches with table := s.table.map countDown }
      { s.reloadPollTimer.ageWatches with
        table := s.table.map countDown
        arbiter := { s.reloadPollTimer.arbiter with overruns := s.arbiter.overruns + 1 } } := ⟨{}, {}⟩
  refine hcount.trans (.updPorts fun p => ?_)
  split
  · exact {}
  · exact .refl _

theorem Keeps.pollTick (s : State) : Keeps s s.pollTick := by
  rw [s.pollTick_eq]
  exact (GoesOn.ticked s).keeps.trans (.pollEvents _ _ _)

/-! ### The commands -/

/-- The next state, where the outcome is one, keeps both invariants. -/
def KeepsBoth (s : State) (o : Host.Outcome State Fault Refusal) : Prop := ∀ t, o = .next t → Keeps s t

theorem Keeps.next {t : State} (h : Keeps s t) : KeepsBoth s (.next t) := by
  intro u hu
  cases hu
  exact h

theorem KeepsBoth.stays (s : State) : KeepsBoth s (.next s) := (Keeps.refl s).next

theorem KeepsBoth.ite {c : Prop} [Decidable c] {a b : Host.Outcome State Fault Refusal} (ha : c → KeepsBoth s a)
    (hb : KeepsBoth s b) : KeepsBoth s (if c then a else b) := by
  split
  next hc => exact ha hc
  · exact hb

theorem execReprobeDue_keepsBoth (s : State) (slot : Fin 32) : KeepsBoth s (execReprobeDue slot s) := by
  unfold execReprobeDue
  split
  next e he =>
    refine .ite (fun _ => Keeps.next ?_) (.stays s)
    have hset : GoesOn s (s.setEntry slot.val (some { e with countdown := 0 })) := .setEntry he {}
    exact (hset.keeps.trans (.appendReprobe _ _)).trans (.settle _ true)
  · exact .stays s

theorem execCharacterReceived_keepsBoth (s : State) (data : Byte) (parity stop : Bool) :
    KeepsBoth s (execCharacterReceived data parity stop s) :=
  .ite (fun _ => (GoesOn.keeps ⟨{}, {}⟩).next)
    (.ite (fun _ => .stays s) ((Keeps.duringCharacter s stop).trans (.takeCharacter _ _ _)).next)

/-- A change of one port's transaction, staging and positions. -/
theorem Keeps.updPort_next {p : Port} {f : PortUnit → PortUnit} (h : (s.port p).GoesOn (f (s.port p))) :
    KeepsBoth s (.next (s.updPort p f)) := (GoesOn.updPort h).keeps.next

/-- Each command keeps both invariants. -/
theorem exec_keepsBoth (s : State) (c : Instr) : KeepsBoth s (exec c s) := by
  cases c with
  | powerOnReset =>
    exact fun t ht => ⟨fun _ => execPowerOnReset_watchInv t ht, fun _ => execPowerOnReset_limitInv t ht⟩
  | loadStart => exact .ite (fun _ => (GoesOn.keeps ⟨{}, {}⟩).next) (.stays s)
  | loadEnd lines => exact .ite (fun _ => ((Keeps.applyLoad s _ _ _).trans (.settle _ true)).next) (.stays s)
  | warmRestart => exact .ite (fun _ => (Keeps.restart s).next) (.stays s)
  | warmRestartEnd => exact .ite (fun _ => ((GoesOn.resumed s).keeps.trans (.settle _ true)).next) (.stays s)
  | channelOperation p op => exact .ite (fun _ => Keeps.updPort_next {}) (.stays s)
  | transactionBegin p => exact .ite (fun _ => .stays s) (Keeps.updPort_next {})
  | transactionEnd p => exact Keeps.updPort_next {}
  | submitWord p w => exact (Keeps.submitWord s p w).next
  | takeCompletion p => exact (Keeps.takeWord (PortUnit.goesOn_takeCompletionWord _)).next
  | takeReport p => exact (Keeps.takeWord (PortUnit.goesOn_takeReportWord _)).next
  | statusRead p full =>
    refine .ite (fun _ => Keeps.next ?_) (.stays s)
    exact ((GoesOn.send s p _).trans (.updPort {})).keeps
  | openPort p | doze p | wakeup p | close p | clear p flags | mask p flags | force p flags
  | invalidControlOperation p w => exact (Keeps.takeControlWord s p _).next
  | read p | write p | cwrite p | attach p | detach p | release p | filterMode p | filterListAdd p
  | filterListRemove p | filterHashSet p | filterHashClear p | filterClearAll p | wakeset p | queryStation p
  | queryChanges p | queryWatches p | queryLine p | mark p | unassignedKind p => exact (Keeps.submitWords s p _).next
  | transmitStart =>
    show KeepsBoth s (execTransmitStart s)
    unfold execTransmitStart
    split
    · exact ((Keeps.lapse s _).trans (.transmit _)).next
    · exact .stays s
  | sendComplete =>
    show KeepsBoth s (execSendComplete s)
    unfold execSendComplete
    split
    · exact (Keeps.completeSend s).next
    · exact .stays s
  | characterReceived data parity stop => exact execCharacterReceived_keepsBoth s data parity stop
  | frameConfirmation => exact .ite (fun _ => (Keeps.lapse s _).next) (.stays s)
  | replyTimerExpiry =>
    show KeepsBoth s (execReplyTimerExpiry s)
    unfold execReplyTimerExpiry
    split
    · exact ((Keeps.lapse s _).trans (.replyExpired _)).next
    · exact .stays s
  | retryGapEnd => exact .ite (fun _ => ((Keeps.lapse s _).trans (.gapEnds _)).next) (.stays s)
  | holdoffExpiry =>
    show KeepsBoth s (execHoldoffExpiry s)
    unfold execHoldoffExpiry
    split
    · exact ((Keeps.lapse s _).trans (.holdoffExpired _)).next
    · exact .stays s
  | tick =>
    show KeepsBoth s (execTick s)
    unfold execTick
    split
    · exact .stays s
    · exact .ite (fun _ => (Keeps.pollTick s).next) (GoesOn.keeps ⟨{}, {}⟩).next
  | pollTick =>
    show KeepsBoth s (execPollTick s)
    unfold execPollTick
    split
    · exact .stays s
    · exact (Keeps.pollTick s).next
  | reprobeDue slot => exact execReprobeDue_keepsBoth s slot
  | watchExpired p k => exact .ite (fun _ => (GoesOn.expireWatch s p k).keeps.next) (.stays s)
  | lineReturnsHigh => exact (GoesOn.setLine fun _ => Nat.zero_le _).keeps.next

theorem step_keepsBoth (s : State) : KeepsBoth s (step s) := by
  unfold step
  split
  · exact (Keeps.bitTime s).next
  next c rest _ =>
    have hpopped : Keeps s { s with pending := rest } := GoesOn.keeps ⟨{}, {}⟩
    exact fun t ht => hpopped.trans (exec_keepsBoth _ c t ht)

end

end Sys2Proof.Machine
end

section
/-! CLAIM. The form of the watch slots, the limited stores and the poll cycle. -/

open Sys2Proof Sys2Proof.Machine

/-- Settles O57: every command, and a bit time on an empty queue, keeps each of the two invariants by itself. -/
theorem watchSlotsAndStoresStayWellFormed : Obligations.WatchSlotsAndStoresStayWellFormed :=
  ⟨fun s t h hstep => (step_keepsBoth s t hstep).watch h, fun s t h hstep => (step_keepsBoth s t hstep).limit h⟩

end

section
/-! SUPPORT. The watch check of a CWRITE (R111-R114), and the request it lets start or completes. -/

namespace Sys2Proof.Machine

open Sys2Proof

/-! ### The watch check (R111-R114) -/

theorem Request.isBroadcast_of_isCwrite {r : Request} (h : r.isCwrite = true) : r.isBroadcast = false := by
  rw [Request.isBroadcast, Request.isWrite_of_isCwrite h, Bool.false_and]

/-- A CWRITE fits its slot unless it names another station or reaches past the watched range (R113). -/
theorem Request.mismatches_iff {r : Request} {w : Watch} {c : Cover} (hcover : w.cover = some c) :
    r.mismatches w = true ↔ c.station ≠ r.top ∨ r.first.toNat < c.first.toNat
      ∨ rangeLast c.first c.count < rangeLast r.first r.count.toNat := by
  simp [Request.mismatches, hcover, rangeWithin]

/-- The slot of a CWRITE that may go on (R114). -/
def Watch.committed (w : Watch) : Watch := { w with state := .committing, cause := .none }

section

variable {s : State} {p : Port} {r : Request} (hcheck : s.startCheck p r = none) (hcwrite : r.isCwrite = true)

include hcheck hcwrite

theorem State.checkHead_lost (hlost : (s.watch p r.slot).state ≠ .armed) :
    s.checkHead p r = (s.emptyWatch p r.slot, some (.lost, (s.watch p r.slot).cause.code)) := by
  simp [State.checkHead, hcheck, hcwrite, State.watchCheck, hlost]

theorem State.checkHead_mismatch (harmed : (s.watch p r.slot).state = .armed)
    (hmismatch : r.mismatches (s.watch p r.slot) = true) : s.checkHead p r = (s, some (.mismatch, 0)) := by
  simp [State.checkHead, hcheck, hcwrite, State.watchCheck, harmed, hmismatch]

theorem State.checkHead_commits (harmed : (s.watch p r.slot).state = .armed)
    (hfits : r.mismatches (s.watch p r.slot) = false) :
    s.checkHead p r = (s.setWatch p r.slot (s.watch p r.slot).committed, none) := by
  simp [State.checkHead, hcheck, hcwrite, State.watchCheck, harmed, hfits, Watch.committed]

end

/-! ### The one request there is (R89-R91) -/

theorem State.pair_port_atTurn (s : State) (p : Port) (r : Request) (k : Nat) (e : Entry) :
    ((s.atTurn p r).pair p k e).port p = { (s.port p).queueing r with headMark := .paired } :=
  (State.pair_port_same _ p k e).trans (congrArg (fun u : PortUnit => { u with headMark := HeadMark.paired })
    (s.queueing_port_same p r))

section

variable {s : State} {p : Port} (h : s.LineTurn p)

include h

/-- A change of a watch slot leaves the turn as it is. -/
theorem State.LineTurn.setWatch (k : WatchNo) (w : Watch) : (s.setWatch p k w).LineTurn p :=
  ⟨⟨h.submitting.acts, h.submitting.fresh⟩, ⟨h.accepting.admits, h.accepting.credit⟩,
    ⟨h.unoccupied.queue, h.unoccupied.mark, h.unoccupied.flight⟩, h.alone, h.idle, h.service, h.cycle, h.weight⟩

theorem State.LineTurn.started_quiet {t : State} {r : Request} {x : Exchange} (ht : RequestStarted s t p r x) :
    t.Quiet := by
  refine fun q => State.localReady_of_empty _ q ?_
  by_cases hq : q = p
  · subst hq
    rw [ht.port, PortUnit.lineStarted]
    exact h.alone q
  · rw [ht.others q hq]
    exact h.alone q

theorem State.LineTurn.paired_quiet {r : Request} (hline : r.isLine = true) (k : Nat) (e : Entry) :
    ((s.atTurn p r).pair p k e).Quiet := by
  intro q
  by_cases hq : q = p
  · subst hq
    refine State.localReady_of_line _ (rest := []) ?_ hline
    rw [State.pair_port_same]
    exact h.queueing_queue
  · refine State.localReady_of_empty _ q ?_
    rw [State.pair_port_ne _ hq]
    exact h.queueing_others hq

/-- The one request there is fails a check in the change that submits it, and completes (R89). -/
theorem State.LineTurn.submit_fails {header : Word} {body : List Word} (hwhole : wholeRecord (header :: body) = true)
    (hline : Request.isLine ⟨header, body⟩ = true)
    (hentry : ∀ e, s.entryOf (Request.top ⟨header, body⟩) = some e → e.state ≠ .probing) {t : State} {status : Status}
    {detail : BitVec 4}
    (hcheck : (s.atTurn p ⟨header, body⟩).checkHead p ⟨header, body⟩ = (t, some (status, detail))) :
    ∃ u, s.submitWords p (header :: body) = u
      ∧ u.port p = (s.port p).localDone (completionOf ⟨header, body⟩ status detail 0 []) ∧ OnlyPort s u p
      ∧ u.exchange = none ∧ u.line = s.line ∧ u.watches = t.watches := by
  obtain ⟨hchoice, hqueues⟩ := h.choice_fails hline hentry hcheck
  have hsubmit := h.submit hline hwhole hchoice fun q => State.localReady_of_empty _ q (hqueues q)
  have honly := (s.atTurn p ⟨header, body⟩).checkHead_watches p ⟨header, body⟩
  rw [hcheck] at honly
  have hports : t.ports = (s.queueing p ⟨header, body⟩).ports := (congrArg State.ports honly :)
  have hport : ∀ q, t.port q = (s.queueing p ⟨header, body⟩).port q := fun q => congrArg (Quad.get · q) hports
  refine ⟨_, hsubmit, ?_, fun q hq => ?_, (congrArg State.exchange honly :).trans h.idle,
    (congrArg State.line honly :), rfl⟩
  · rw [State.updPort_port_same, hport, s.queueing_port_same,
      PortUnit.endHead_queueing _ _ _ h.unoccupied.queue h.unoccupied.mark]
  · rw [State.updPort_port_ne _ hq, hport, s.queueing_port_ne hq]

end

end Sys2Proof.Machine
end

section
/-! CLAIM. CWRITE. -/

open Sys2Proof Sys2Proof.Machine

/-- Settles O24: the CWRITE is the one request there is; by its slot it completes LOST or MISMATCH, or commits the slot
and then starts or is paired as a WRITE is. -/
theorem cwriteIsLostMismatchedOrCommitted : Obligations.CwriteIsLostMismatchedOrCommitted := by
  intro s p h a first count values k e r w hwhole hturn hslot he hstate hstart
  have hcwrite : r.isCwrite = true := by simp [r, Request.isCwrite, reqCwrite]
  have hline : r.isLine = true := by simp [Request.isLine, show (r.kind == reqCwrite) = true from hcwrite]
  have hread : r.isRead = false := by simp [r, Request.isRead, reqRead]
  have hbroadcast := Request.isBroadcast_of_isCwrite hcwrite
  have hwatched : r.isWatchedRead = false := by rw [Request.isWatchedRead, hread, Bool.false_and]
  have htop : r.top = a := Request.top_lineWord ..
  have hname : r.slot = h.slot := Request.slot_headerWord ..
  have hfirst : r.first = first := Request.first_lineWord ..
  have hcount : r.count = count := Request.count_lineWord ..
  have hentry : ∀ f, s.entryOf r.top = some f → f.state ≠ .probing := by
    intro f hf
    rw [htop, s.entryOf_of_slotOf hslot, he] at hf
    cases hf
    exact hstate
  have hwatch : (s.atTurn p r).watch p r.slot = w := by rw [hname]; rfl
  refine ⟨fun hlost => ?lost, fun c harmed hcover hbad => ?mismatch, fun c harmed hcover hstation hlow hhigh => ?commits⟩
  case lost =>
    have hcheck := State.checkHead_lost (s := s.atTurn p r) hstart hcwrite (by rw [hwatch]; exact hlost)
    obtain ⟨u, hexec, hport, honly, hx, hl, hwatches⟩ := hturn.submit_fails hwhole hline hentry hcheck
    refine ⟨u, _, congrArg _ hexec, hport, honly, rfl, congrArg (·.cause.code) hwatch, rfl, hx, hl, fun q j => ?_⟩
    rw [State.watch_congr hwatches]
    exact hname ▸ State.setWatch_watch (s.atTurn p r) p q r.slot j Watch.emptySlot
  case mismatch =>
    have hcheck := State.checkHead_mismatch (s := s.atTurn p r) hstart hcwrite (by rw [hwatch]; exact harmed) (by
      rw [hwatch, Request.mismatches_iff hcover, htop, hfirst, hcount]
      exact hbad)
    obtain ⟨u, hexec, hport, honly, hx, hl, hwatches⟩ := hturn.submit_fails hwhole hline hentry hcheck
    exact ⟨u, _, congrArg _ hexec, hport, honly, rfl, rfl, rfl, hx, hl, hwatches⟩
  case commits =>
    have hfits : r.mismatches w = false := by
      rw [← Bool.not_eq_true, Request.mismatches_iff hcover, htop, hfirst, hcount]
      rintro (hother | hbelow | habove)
      · exact hother hstation
      · exact absurd hlow (Nat.not_le.mpr hbelow)
      · exact absurd hhigh (Nat.not_le.mpr habove)
    have hcheck : (s.atTurn p r).checkHead p r = ((s.setWatch p h.slot w.committed).atTurn p r, none) := by
      rw [State.checkHead_commits (s := s.atTurn p r) hstart hcwrite (by rw [hwatch]; exact harmed)
        (by rw [hwatch]; exact hfits), hwatch, hname]
      rfl
    have hchoice := hturn.choice_starts hline hentry hcheck
    have hslot' : ((s.setWatch p h.slot w.committed).atTurn p r).slotOf r.top = some k := by
      rw [htop]
      exact hslot
    have hturn' := hturn.setWatch h.slot w.committed
    have hcommitted := State.setWatch_watch s p
    cases htoggle : e.toggle with
    | some tog =>
      rw [State.startHead_write _ hread hbroadcast hslot' he htoggle] at hchoice
      have ht := hturn'.started r (writeExchange p r k tog)
      refine ⟨_, _, congrArg Host.Outcome.next (hturn.submit hline hwhole hchoice (hturn'.started_quiet ht)), ht.others,
        ht.exchange, fun q j => ?_, fun tog' htog => ?_, nofun⟩
      · rw [State.watch_congr (ht.watches hwatched)]
        exact hcommitted q h.slot j w.committed
      · cases htog
        refine ⟨ht.port, rfl, if_pos hcwrite, ?_, rfl, ?_, ⟨ht.turn.pointer, ht.turn.used, ht.turn.rest⟩⟩
        · rw [← hname]
          exact if_pos hcwrite
        · rw [← htop, ← hfirst]
          rfl
    | none =>
      rw [State.startHead_pair _ hread hbroadcast hslot' he htoggle] at hchoice
      have hport := (s.setWatch p h.slot w.committed).pair_port_atTurn p r k e
      refine ⟨_, pingExchange .resync k e,
        congrArg Host.Outcome.next (hturn.submit hline hwhole hchoice (hturn'.paired_quiet hline k e)),
        fun q hq => (State.pair_port_ne _ hq k e).trans (State.queueing_port_ne _ hq r), rfl,
        fun q j => hcommitted q h.slot j w.committed, nofun, fun _ => ⟨?_, ?_, rfl, rfl, rfl, rfl⟩⟩
      · rw [hport]
        exact congrArg (· ++ [r]) hturn.unoccupied.queue
      · rw [hport]

end

section
/-! SUPPORT. A local request that executes and completes in the change that submits it (R143, R145, R147). -/

namespace Sys2Proof.Machine

open Sys2Proof

/-- Where no local request is ready and no choice is called for, nothing is taken up. -/
theorem State.settleAll_of_quiet {s : State} (h : s.Quiet) (fuel : Nat) : State.settleAll fuel false s = s := by
  cases fuel with
  | zero => rfl
  | succ fuel =>
    have hnone : s.due false = [] := by simp [State.due, h _]
    rw [State.settleAll, hnone]

/-- Of the four ports one is p. -/
theorem ports_filter_single (p : Port) : ([0, 1, 2, 3] : List Port).filter (fun q => decide (q = p)) = [p] := by
  revert p
  decide

/-- A local request that alone stands ready is all that a change without a call for a choice takes up, where its
execution calls for none (R79, R147). -/
theorem State.settle_execute (s : State) {p : Port} {t : State} (hready : ∀ q, s.localReady q = decide (q = p))
    (hexecute : s.executeHead p = (t, false)) (ht : t.Quiet) : s.settle false = t := by
  have hdue : s.due false = [.execute p] := by
    have hfilter : ([0, 1, 2, 3] : List Port).filter (fun q => s.localReady q) = [p] := by
      rw [funext hready, ports_filter_single]
    simp only [State.due, hfilter]
    rfl
  have htaken : State.settleAll (2 * s.queued + 10) false s
      = State.settleAll (2 * s.queued + 9) (false || (s.executeHead p).2) (s.executeHead p).1 := by
    rw [State.settleAll, hdue]
    rfl
  rw [State.settle, State.settleFuel, htaken, hexecute]
  exact State.settleAll_of_quiet ht _

section

variable {s : State} {p : Port} (h : s.LocalTurn p) {header : Word} {body : List Word}

include h

/-- The request submitted is the one local request that may execute (R147). -/
theorem State.LocalTurn.ready {r : Request} (hlocal : r.isLine = false) (q : Port) :
    (s.queueing p r).localReady q = decide (q = p) := by
  by_cases hq : q = p
  · subst hq
    have hrun : (s.queueing q r).run = .running := h.submitting.running
    simp [State.localReady, hrun, s.queueing_port_same, PortUnit.queueing, h.unoccupied.queue, h.unoccupied.mark,
      h.unoccupied.flight, hlocal]
  · rw [decide_eq_false hq]
    exact (State.localReady_congr (s := s) (t := s.queueing p r) rfl (s.queueing_port_ne hq r)).trans (h.quiet q)

/-- What stands when a local request has completed with the record c, u being what its execution left: port p holds the
record, and the other ports are as they were (R147, R161). -/
theorem State.LocalTurn.done {r : Request} {u : State} (hports : u.ports = (s.queueing p r).ports) (c : Completion) :
    LocalDone s (u.updPort p (·.endHead c)) p c := by
  have hport : ∀ q, u.port q = (s.queueing p r).port q := fun q => congrArg (Quad.get · q) hports
  refine ⟨?_, fun q hq => ?_⟩
  · rw [State.updPort_port_same, hport, s.queueing_port_same,
      PortUnit.endHead_queueing _ _ _ h.unoccupied.queue h.unoccupied.mark]
  · rw [State.updPort_port_ne _ hq, hport, s.queueing_port_ne hq]

/-- The record of a local request is submitted; the request executes at once and completes, and no more is taken up
(R145, R147). -/
theorem State.LocalTurn.submit (hwhole : wholeRecord (header :: body) = true)
    (hlocal : Request.isLine ⟨header, body⟩ = false) {u : State} {c : Completion}
    (hdo : (s.queueing p ⟨header, body⟩).doLocal p ⟨header, body⟩ = .completes u c)
    (hrun : u.run = s.run) (hports : u.ports = (s.queueing p ⟨header, body⟩).ports) :
    s.submitWords p (header :: body) = u.updPort p (·.endHead c) := by
  have hqueued : ((s.queueing p ⟨header, body⟩).port p).queue = [⟨header, body⟩] := by
    rw [s.queueing_port_same, PortUnit.queueing, h.unoccupied.queue, List.nil_append]
  have hdone := h.done hports c
  have hempty : ((u.updPort p (·.endHead c)).port p).queue = [] := by
    rw [hdone.port]
    exact h.unoccupied.queue
  have hexecute : (s.queueing p ⟨header, body⟩).executeHead p = (u.updPort p (·.endHead c), false) := by
    simp only [State.executeHead, hqueued, hdo, State.headIsLine, hempty]
  rw [s.submitWords_queueing h.submitting h.accepting hwhole, hlocal, Bool.and_false]
  refine State.settle_execute _ (h.ready hlocal) hexecute fun q => ?_
  by_cases hq : q = p
  · subst hq
    exact State.localReady_of_empty _ q hempty
  · exact (State.localReady_congr (s := s) (t := u.updPort p (·.endHead c)) hrun (hdone.others q hq)).trans (h.quiet q)

end

/-- From s to t a local request of port p completed with the record c, and nothing but the ports and the routing state
of port p, now f, has changed. -/
def RoutingDone (s t : State) (p : Port) (f : Routing) (c : Completion) : Prop :=
  LocalDone s t p c ∧ { t with ports := s.ports, routing := s.routing } = s ∧ t.routing = s.routing.set p f

section

variable {s t : State} {p : Port} {f : Routing} {c : Completion} (h : RoutingDone s t p f c)

include h

theorem RoutingDone.done : LocalDone s t p c := h.1

theorem RoutingDone.rest : { t with ports := s.ports, routing := s.routing } = s := h.2.1

theorem RoutingDone.routing : t.routing = s.routing.set p f := h.2.2

theorem RoutingDone.get : t.routing.get p = f := by
  rw [h.routing, Quad.get_set_same]

theorem RoutingDone.onlyRouting : OnlyRouting s t p :=
  ⟨h.rest, fun q hq => by rw [h.routing, Quad.get_set_ne _ hq]⟩

/-- Where the routing state of the port is as it was, nothing but the ports changed. -/
theorem RoutingDone.onlyPorts (hf : f = s.routing.get p) : OnlyPorts s t := by
  have hrouting : t.routing = s.routing := by rw [h.routing, hf, Quad.set_get]
  calc { t with ports := s.ports } = { t with ports := s.ports, routing := s.routing } := by rw [← hrouting]
    _ = s := h.rest

end

/-- A local request that changes the routing state of its port alone executes in the change that submits it. -/
theorem State.LocalTurn.submit_routing {s : State} {p : Port} (h : s.LocalTurn p) {header : Word} {body : List Word}
    (hwhole : wholeRecord (header :: body) = true) (hlocal : Request.isLine ⟨header, body⟩ = false) {f : Routing}
    {c : Completion} (hdo : (s.queueing p ⟨header, body⟩).doLocal p ⟨header, body⟩
      = .completes ((s.queueing p ⟨header, body⟩).setRouting p f) c) :
    RoutingDone s (s.submitWords p (header :: body)) p f c := by
  rw [h.submit hwhole hlocal hdo rfl rfl]
  exact ⟨h.done (u := (s.queueing p ⟨header, body⟩).setRouting p f) rfl c, rfl, rfl⟩

end Sys2Proof.Machine
end

section
/-! SUPPORT. The fields of the record of a FILTER, read back (R193), the length of a local request's record
(R144), and a FILTER submitted on its turn. -/

namespace Sys2Proof.Machine

open Sys2Proof

/-! ### The header (R144, R193) -/

section

variable (kind : BitVec 4) (h : Header) (body : List Word)

theorem lengthByte_headerWord : BitVec.extractLsb' 0 8 (headerWord kind h) = h.length :=
  BitVec.extractLsb'_append_eq_right

@[simp] theorem Request.tag_headerWord : Request.tag ⟨headerWord kind h, body⟩ = h.tag :=
  BitVec.extractLsb'_append_eq_of_le (by decide) |>.trans BitVec.extractLsb'_append_eq_right

/-- A header's length byte outside 2 to 18 is taken as 2 (R144). -/
theorem takenLength_headerWord :
    takenLength (headerWord kind h) = if badLengthByte h.length then 2 else h.length.toNat := by
  rw [takenLength, lengthByte_headerWord]

variable {kind h body}

/-- A whole record has the wrong length just where its length byte is not the number of words its kind calls for
(R144). -/
theorem Request.wrongLength_iff {n : Nat} (hn : 2 ≤ n ∧ n ≤ 18)
    (hwhole : wholeRecord (headerWord kind h :: body) = true) :
    Request.wrongLength ⟨headerWord kind h, body⟩ n = true ↔ h.length.toNat ≠ n := by
  have hlength : body.length + 1 = if badLengthByte h.length then 2 else h.length.toNat := by
    rw [← takenLength_headerWord kind]
    simpa [wholeRecord] using hwhole
  simp only [Request.wrongLength, Request.badLength, Request.length, lengthByte_headerWord, Bool.or_eq_true]
  by_cases hbad : badLengthByte h.length = true
  · simp only [hbad, true_or, true_iff]
    simp only [badLengthByte, Bool.or_eq_true, decide_eq_true_eq] at hbad
    omega
  · rw [if_neg hbad] at hlength
    simp [hbad, hlength]

end

/-! ### FILTER -/

/-- The request of a FILTER (R193). -/
def filterRequest (h : Header) (sub second : Byte) (low : Half) (more : List Word) : Request :=
  ⟨headerWord reqFilter h, subWord sub second low :: more⟩

/-- The station that the completion of a FILTER shows: the key's, where its sub-operation carries one (R161; log 14). -/
def filterStation (sub second : Byte) : Byte :=
  if sub = 2#8 ∨ sub = 3#8 ∨ sub = 4#8 ∨ sub = 5#8 then second else 0

section

variable (h : Header) (sub second : Byte) (low : Half) (more : List Word)

@[simp] theorem filterRequest_kind : (filterRequest h sub second low more).kind = reqFilter :=
  Request.kind_headerWord ..

@[simp] theorem filterRequest_tag : (filterRequest h sub second low more).tag = h.tag := Request.tag_headerWord ..

@[simp] theorem filterRequest_top : (filterRequest h sub second low more).top = sub :=
  BitVec.extractLsb'_append_eq_of_le (by decide) |>.trans BitVec.extractLsb'_append_eq_left

@[simp] theorem filterRequest_second : (filterRequest h sub second low more).second = second :=
  BitVec.extractLsb'_append_eq_of_le (by decide) |>.trans BitVec.extractLsb'_append_eq_right

@[simp] theorem filterRequest_low : (filterRequest h sub second low more).low = low :=
  BitVec.extractLsb'_append_eq_right

@[simp] theorem filterRequest_isLine : (filterRequest h sub second low more).isLine = false := by
  rw [Request.isLine, filterRequest_kind]
  rfl

/-- The sub-operations 2 to 5 carry a key (R193). -/
theorem carriesKey_iff (sub : Byte) :
    sub = 2#8 ∨ sub = 3#8 ∨ sub = 4#8 ∨ sub = 5#8 ↔ 2 ≤ sub.toNat ∧ sub.toNat ≤ 5 := by
  simp only [← BitVec.toNat_inj, BitVec.toNat_ofNat]
  omega

theorem filterRequest_station : (filterRequest h sub second low more).station = filterStation sub second := by
  simp only [Request.station, filterRequest_isLine, filterRequest_kind, filterRequest_top, filterRequest_second,
    filterStation, carriesKey_iff, Bool.and_eq_true, decide_eq_true_eq]
  rfl

/-- The first point of a FILTER's completion is the code of the mode (R133, R161). -/
theorem filterDone_first (station : Byte) (status : Status) (mode : FilterMode) (keys : Nat) :
    (filterDone h station status mode keys).first = mode.code.setWidth 16 := by
  cases mode <;> rfl

/-- The completion of a FILTER shows the mode and the number of keys of the filter that it leaves (R133, R161). -/
theorem filterRequest_completion (f : Routing) (status : Status) :
    { completionOf (filterRequest h sub second low more) status 0 0 [] with
      first := f.mode.code.setWidth 16, count := BitVec.ofNat 8 f.keys.length }
      = filterDone h (filterStation sub second) status f.mode f.keys.length := by
  rw [completionOf, filterRequest_kind, filterRequest_tag, filterRequest_station,
    ← filterDone_first h (filterStation sub second) status f.mode f.keys.length]
  rfl

end

/-- A FILTER submitted on its turn leaves the filter that its sub-operation gives, and completes with it. -/
theorem State.LocalTurn.submit_filter {s : State} {p : Port} (hturn : s.LocalTurn p) {h : Header} {sub second : Byte}
    {low : Half} {more : List Word} (hwhole : wholeRecord (filterRecord h sub second low more) = true) {f : Routing}
    {status : Status} (hf : (s.routing.get p).filter (filterRequest h sub second low more) = (f, status)) :
    RoutingDone s (s.submitWords p (filterRecord h sub second low more)) p f
      (filterDone h (filterStation sub second) status f.mode f.keys.length) := by
  refine hturn.submit_routing hwhole (filterRequest_isLine ..) ?_
  rw [← filterRequest_completion h sub second low more]
  show (s.queueing p (filterRequest h sub second low more)).doLocal p (filterRequest h sub second low more) = _
  have hrouting : (s.queueing p (filterRequest h sub second low more)).routing = s.routing := rfl
  rw [State.doLocal, filterRequest_kind]
  show State.doFilter _ p _ = _
  rw [State.doFilter, hrouting, hf]
  rfl

end Sys2Proof.Machine
end

section
/-! SUPPORT. What each sub-operation of FILTER does to the filter (R133-R137). -/

namespace Sys2Proof.Machine

open Sys2Proof

/-- A FILTER of two words has the right length (R144). -/
theorem filterRecord_whole {h : Header} (hlength : h.length = 2#8) (sub second : Byte) (low : Half) :
    wholeRecord (filterRecord h sub second low []) = true := by
  rw [filterRecord, wholeRecord, takenLength_headerWord_two _ _ hlength]
  rfl

theorem filterRequest_rightLength {h : Header} (hlength : h.length = 2#8) (sub second : Byte) (low : Half) :
    ¬ (filterRequest h sub second low []).wrongLength 2 = true := fun hwrong =>
  (Request.wrongLength_iff ⟨le_refl 2, by decide⟩ (filterRecord_whole hlength sub second low)).mp hwrong
    (congrArg BitVec.toNat hlength)

/-- The key of a FILTER is one where its station and its group are in range (R133). -/
theorem filterRequest_filterKey (h : Header) (sub second : Byte) (low : Half) (more : List Word) :
    (filterRequest h sub second low more).filterKey
      = if stationAddress second = true ∧ low.toNat ≤ 4095 then some ⟨second, low⟩ else none := by
  rw [Request.filterKey, filterRequest_second, filterRequest_low]

theorem filterRequest_key {second : Byte} {low : Half} (hstation : stationAddress second = true)
    (hgroup : low.toNat ≤ 4095) (h : Header) (sub : Byte) (more : List Word) :
    (filterRequest h sub second low more).filterKey = some ⟨second, low⟩ :=
  (filterRequest_filterKey ..).trans (if_pos ⟨hstation, hgroup⟩)

theorem filterRequest_noKey {second : Byte} {low : Half} (hbad : stationAddress second = false ∨ 4095 < low.toNat)
    (h : Header) (sub : Byte) (more : List Word) : (filterRequest h sub second low more).filterKey = none := by
  refine (filterRequest_filterKey ..).trans (if_neg ?_)
  rintro ⟨hstation, hgroup⟩
  rcases hbad with hbad | hbad
  · exact Bool.noConfusion (hstation.symm.trans hbad)
  · exact Nat.not_lt.mpr hgroup hbad

/-! ### The sub-operations (R133) -/

theorem Routing.filter_wrongLength (f : Routing) {r : Request} (h : r.wrongLength 2 = true) :
    f.filter r = (f, .badReq) := if_pos h

section

variable (f : Routing) {r : Request} (hlength : ¬ r.wrongLength 2 = true)

include hlength

/-- A byte that names no mode is refused (R133, R134). -/
theorem Routing.filter_of_mode (htop : r.top = 1) :
    f.filter r = ((filterMode r.second).map fun m => ({ f with mode := m }, Status.ok)).getD (f, .badReq) :=
  (if_neg hlength).trans <| (if_pos htop).trans (by cases filterMode r.second <;> rfl)

/-- A key out of range is refused (R133, R135, R136). -/
theorem Routing.filter_of_listAdd (htop : r.top = 2) :
    f.filter r = (r.filterKey.map f.addKey).getD (f, .badReq) :=
  (if_neg hlength).trans <| (if_neg (ne_of_eq_of_ne htop (by decide))).trans <| (if_pos htop).trans
    (by cases r.filterKey <;> rfl)

theorem Routing.filter_of_listRemove (htop : r.top = 3) :
    f.filter r = (r.filterKey.map f.removeKey).getD (f, .badReq) :=
  (if_neg hlength).trans <| (if_neg (ne_of_eq_of_ne htop (by decide))).trans <|
    (if_neg (ne_of_eq_of_ne htop (by decide))).trans <| (if_pos htop).trans (by cases r.filterKey <;> rfl)

theorem Routing.filter_of_hashSet (htop : r.top = 4) :
    f.filter r = (r.filterKey.map fun k => (f.setHash k, Status.ok)).getD (f, .badReq) :=
  (if_neg hlength).trans <| (if_neg (ne_of_eq_of_ne htop (by decide))).trans <|
    (if_neg (ne_of_eq_of_ne htop (by decide))).trans <| (if_neg (ne_of_eq_of_ne htop (by decide))).trans <|
    (if_pos htop).trans (by cases r.filterKey <;> rfl)

theorem Routing.filter_of_hashClear (htop : r.top = 5) :
    f.filter r = (r.filterKey.map fun k => (f.clearHash k, Status.ok)).getD (f, .badReq) :=
  (if_neg hlength).trans <| (if_neg (ne_of_eq_of_ne htop (by decide))).trans <|
    (if_neg (ne_of_eq_of_ne htop (by decide))).trans <| (if_neg (ne_of_eq_of_ne htop (by decide))).trans <|
    (if_neg (ne_of_eq_of_ne htop (by decide))).trans <| (if_pos htop).trans (by cases r.filterKey <;> rfl)

theorem Routing.filter_of_clearAll (htop : r.top = 6) : f.filter r = (f.clearFilter, .ok) :=
  (if_neg hlength).trans <| (if_neg (ne_of_eq_of_ne htop (by decide))).trans <|
    (if_neg (ne_of_eq_of_ne htop (by decide))).trans <| (if_neg (ne_of_eq_of_ne htop (by decide))).trans <|
    (if_neg (ne_of_eq_of_ne htop (by decide))).trans <| (if_neg (ne_of_eq_of_ne htop (by decide))).trans (if_pos htop)

end

section

variable (f : Routing) {h : Header} (hlength : h.length = 2#8)

include hlength

theorem Routing.filter_mode {mode : Byte} {m : FilterMode} (hmode : filterMode mode = some m) (low : Half) :
    f.filter (filterRequest h 1 mode low []) = ({ f with mode := m }, .ok) := by
  rw [f.filter_of_mode (filterRequest_rightLength hlength 1 mode low) (filterRequest_top ..),
    filterRequest_second, hmode]
  rfl

theorem Routing.filter_clearAll (second : Byte) (low : Half) :
    f.filter (filterRequest h 6 second low []) = (f.clearFilter, .ok) :=
  f.filter_of_clearAll (filterRequest_rightLength hlength 6 second low) (filterRequest_top ..)

variable {station : Byte} {group : Half} (hstation : stationAddress station = true) (hgroup : group.toNat ≤ 4095)

include hstation hgroup

theorem Routing.filter_listAdd : f.filter (filterRequest h 2 station group []) = f.addKey ⟨station, group⟩ := by
  rw [f.filter_of_listAdd (filterRequest_rightLength hlength 2 station group) (filterRequest_top ..),
    filterRequest_key hstation hgroup]
  rfl

theorem Routing.filter_listRemove : f.filter (filterRequest h 3 station group []) = f.removeKey ⟨station, group⟩ := by
  rw [f.filter_of_listRemove (filterRequest_rightLength hlength 3 station group) (filterRequest_top ..),
    filterRequest_key hstation hgroup]
  rfl

theorem Routing.filter_hashSet : f.filter (filterRequest h 4 station group []) = (f.setHash ⟨station, group⟩, .ok) := by
  rw [f.filter_of_hashSet (filterRequest_rightLength hlength 4 station group) (filterRequest_top ..),
    filterRequest_key hstation hgroup]
  rfl

theorem Routing.filter_hashClear :
    f.filter (filterRequest h 5 station group []) = (f.clearHash ⟨station, group⟩, .ok) := by
  rw [f.filter_of_hashClear (filterRequest_rightLength hlength 5 station group) (filterRequest_top ..),
    filterRequest_key hstation hgroup]
  rfl

end

/-! ### The checks that fail (R133) -/

theorem Routing.filter_noMode (f : Routing) {r : Request} (htop : r.top = 1) (hmode : filterMode r.second = none) :
    f.filter r = (f, .badReq) := by
  by_cases hlength : r.wrongLength 2 = true
  · exact f.filter_wrongLength hlength
  · rw [f.filter_of_mode hlength htop, hmode]
    rfl

theorem Routing.filter_noKey (f : Routing) {r : Request}
    (htop : r.top = 2#8 ∨ r.top = 3#8 ∨ r.top = 4#8 ∨ r.top = 5#8) (hkey : r.filterKey = none) :
    f.filter r = (f, .badReq) := by
  by_cases hlength : r.wrongLength 2 = true
  · exact f.filter_wrongLength hlength
  rcases htop with htop | htop | htop | htop
  · rw [f.filter_of_listAdd hlength htop, hkey]; rfl
  · rw [f.filter_of_listRemove hlength htop, hkey]; rfl
  · rw [f.filter_of_hashSet hlength htop, hkey]; rfl
  · rw [f.filter_of_hashClear hlength htop, hkey]; rfl

/-- The bytes above 3 name no mode (R133). -/
theorem filterMode_none {b : Byte} (h : 3 < b.toNat) : filterMode b = none := by
  unfold filterMode
  iterate 4 rw [if_neg (by rintro rfl; revert h; decide)]

/-! ### The exact list (R135) -/

section

variable {f : Routing} {k : Key}

theorem Routing.addKey_listed (h : k ∈ f.keys) : f.addKey k = (f, .already) := if_pos (List.contains_iff_mem.mpr h)

theorem Routing.addKey_full (h : k ∉ f.keys) (hfull : f.keys.length = 16) : f.addKey k = (f, .tableFull) :=
  (if_neg (mt List.contains_iff_mem.mp h)).trans (if_pos hfull.ge)

theorem Routing.addKey_new (h : k ∉ f.keys) (hroom : f.keys.length < 16) :
    f.addKey k = ({ f with keys := f.keys ++ [k] }, .ok) :=
  (if_neg (mt List.contains_iff_mem.mp h)).trans (if_neg (Nat.not_le.mpr hroom))

theorem Routing.removeKey_listed (h : k ∈ f.keys) : f.removeKey k = ({ f with keys := f.keys.erase k }, .ok) :=
  if_pos (List.contains_iff_mem.mpr h)

theorem Routing.removeKey_absent (h : k ∉ f.keys) : f.removeKey k = (f, .already) :=
  if_neg (mt List.contains_iff_mem.mp h)

end

/-! ### The hash table (R125, R136) -/

/-- A hash index has nine bits (R125). -/
theorem hashIndex_lt (k : Key) : hashIndex k < 512 := BitVec.isLt _

theorem Routing.setHash_bit (f : Routing) (k : Key) (j : Nat) :
    (f.setHash k).hash.getLsbD j = if j = hashIndex k then true else f.hash.getLsbD j := by
  show (f.hash ||| BitVec.twoPow 512 (hashIndex k)).getLsbD j = _
  rw [BitVec.getLsbD_or, BitVec.getLsbD_twoPow, decide_eq_true (hashIndex_lt k), Bool.true_and]
  split
  next hj => rw [decide_eq_true hj.symm, Bool.or_true]
  next hj => rw [decide_eq_false (Ne.symm hj), Bool.or_false]

theorem Routing.clearHash_bit (f : Routing) (k : Key) (j : Nat) :
    (f.clearHash k).hash.getLsbD j = if j = hashIndex k then false else f.hash.getLsbD j := by
  show (f.hash &&& ~~~BitVec.twoPow 512 (hashIndex k)).getLsbD j = _
  rw [BitVec.getLsbD_and, BitVec.getLsbD_not, BitVec.getLsbD_twoPow, decide_eq_true (hashIndex_lt k), Bool.true_and]
  split
  next hj => rw [decide_eq_true hj.symm, Bool.not_true, Bool.and_false, Bool.and_false]
  next hj =>
    rw [decide_eq_false (Ne.symm hj), Bool.not_false, Bool.and_true]
    by_cases hlt : j < 512
    · rw [decide_eq_true hlt, Bool.and_true]
    · rw [decide_eq_false hlt, Bool.and_false, BitVec.getLsbD_of_ge _ _ (Nat.not_lt.mp hlt)]

/-- In mode HASHED the bit at the index of an item's key decides (R126). -/
theorem Routing.accepts_hashed {f : Routing} (h : f.mode = .hashed) (station : Byte) (i : Item) :
    f.accepts station i = f.hash.getLsbD (hashIndex (itemKey station i.point)) := by
  simp only [Routing.accepts, h]

section

variable {f : Routing} (h : f.mode = .hashed) {k : Key} {station : Byte} {i : Item}
  (hindex : hashIndex (itemKey station i.point) = hashIndex k)

include h hindex

/-- The index set, every key of it is accepted (R126, R136). -/
theorem Routing.setHash_accepts : (f.setHash k).accepts station i = true := by
  have hmode : (f.setHash k).mode = .hashed := h
  rw [Routing.accepts_hashed hmode, Routing.setHash_bit, if_pos hindex]

/-- The index cleared, no key of it is (R126, R136). -/
theorem Routing.clearHash_accepts : (f.clearHash k).accepts station i = false := by
  have hmode : (f.clearHash k).mode = .hashed := h
  rw [Routing.accepts_hashed hmode, Routing.clearHash_bit, if_pos hindex]

end

end Sys2Proof.Machine
end

section
/-! CLAIM. FILTER. -/

open Sys2Proof Sys2Proof.Machine

/-- Settles O28: MODE replaces the mode alone, CLEAR_ALL the filter, and both complete OK. -/
theorem filterModeAndClearAll : Obligations.FilterModeAndClearAll := by
  refine ⟨fun s p h mode m hlength hturn hmode => ?mode, fun s p h hlength hturn => ?clearAll⟩
  case mode =>
    have hcode : filterMode mode = some m := by
      rcases hmode with ⟨rfl, rfl⟩ | ⟨rfl, rfl⟩ | ⟨rfl, rfl⟩ | ⟨rfl, rfl⟩ <;> rfl
    have ht := hturn.submit_filter (filterRecord_whole hlength 1 mode 0)
      ((s.routing.get p).filter_mode hlength hcode 0)
    refine ⟨_, rfl, ht.done, ht.onlyRouting, ht.get, fun station i => ?_, by rw [ht.done.port]; rfl⟩
    rw [ht.get]
    cases m <;> rfl
  case clearAll =>
    have ht := hturn.submit_filter (filterRecord_whole hlength 6 0 0) ((s.routing.get p).filter_clearAll hlength 0 0)
    exact ⟨_, rfl, ht.done, ht.onlyRouting, ht.get⟩

/-- Settles O29: the key joins or leaves the list, unless it is there already, the list is full, or it is not there. -/
theorem filterListAddsAndRemoves : Obligations.FilterListAddsAndRemoves := by
  intro s p h station group hlength hturn hstation hgroup f key
  have hadd := f.filter_listAdd hlength hstation hgroup
  have hremove := f.filter_listRemove hlength hstation hgroup
  have hadded := fun {g status} (hg : f.addKey key = (g, status)) =>
    hturn.submit_filter (filterRecord_whole hlength 2 station group) (hadd.trans hg)
  have hremoved := fun {g status} (hg : f.removeKey key = (g, status)) =>
    hturn.submit_filter (filterRecord_whole hlength 3 station group) (hremove.trans hg)
  refine ⟨fun hin => ?already, fun hnew hfull => ?full, fun hnew hroom => ?added, fun hin => ?removed,
    fun habsent => ?absent⟩
  case already =>
    have ht := hadded (Routing.addKey_listed hin)
    exact ⟨_, rfl, ht.done, ht.onlyPorts rfl⟩
  case full =>
    have ht := hadded (Routing.addKey_full hnew hfull)
    refine ⟨_, rfl, ?_, ht.onlyPorts rfl⟩
    rw [← hfull]
    exact ht.done
  case added =>
    have ht := hadded (Routing.addKey_new hnew hroom)
    have hcount : (f.keys ++ [key]).length = f.keys.length + 1 := List.length_append
    refine ⟨_, rfl, ?_, ht.onlyRouting, ht.get⟩
    rw [← hcount]
    exact ht.done
  case removed =>
    have ht := hremoved (Routing.removeKey_listed hin)
    refine ⟨_, rfl, ?_, ht.onlyRouting, ht.get⟩
    rw [← List.length_erase_of_mem hin]
    exact ht.done
  case absent =>
    have ht := hremoved (Routing.removeKey_absent habsent)
    exact ⟨_, rfl, ht.done, ht.onlyPorts rfl⟩

/-- Settles O30: one bit of the hash table changes, and with it the verdict of mode HASHED on the keys of that index. -/
theorem filterHashSetsAndClears : Obligations.FilterHashSetsAndClears := by
  refine ⟨fun key => ?index, fun station point => ⟨rfl, ?group⟩,
    fun s p h station group hlength hturn hstation hgroup => ⟨?set, ?clear⟩⟩
  case index =>
    show (BitVec.extractLsb' 0 9 (crc16 _)).toNat = _
    rw [BitVec.extractLsb'_toNat, Nat.shiftRight_zero]
    rfl
  case group =>
    show (point >>> 4).toNat = _
    rw [BitVec.toNat_ushiftRight, Nat.shiftRight_eq_div_pow]
  case set =>
    have ht := hturn.submit_filter (filterRecord_whole hlength 4 station group)
      ((s.routing.get p).filter_hashSet hlength hstation hgroup)
    refine ⟨_, rfl, ht.done, ht.onlyRouting, ?_⟩
    rw [ht.get]
    exact ⟨rfl, rfl, rfl, Routing.setHash_bit _ _, fun _ _ hmode hindex => Routing.setHash_accepts hmode hindex⟩
  case clear =>
    have ht := hturn.submit_filter (filterRecord_whole hlength 5 station group)
      ((s.routing.get p).filter_hashClear hlength hstation hgroup)
    refine ⟨_, rfl, ht.done, ht.onlyRouting, ?_⟩
    rw [ht.get]
    exact ⟨rfl, rfl, rfl, Routing.clearHash_bit _ _, fun _ _ hmode hindex => Routing.clearHash_accepts hmode hindex⟩

/-- Settles O31: each of the three checks that fails leaves the filter, and nothing but the port has changed. -/
theorem badFilterLeavesTheFilter : Obligations.BadFilterLeavesTheFilter := by
  intro s p h i sub second low more hturn hrecord hwf hbad
  have hwhole := Instr.wholeRecord_of_wf hrecord hwf
  have hfilter : (s.routing.get p).filter (filterRequest h sub second low more) = (s.routing.get p, .badReq) := by
    rcases hbad with hlength | ⟨hsub, hmode⟩ | ⟨hsub, hkey⟩
    · refine Routing.filter_wrongLength _ ((Request.wrongLength_iff ⟨le_refl 2, by decide⟩ hwhole).mpr fun heq => ?_)
      exact hlength (BitVec.eq_of_toNat_eq heq)
    · exact Routing.filter_noMode _ (by rw [filterRequest_top, hsub]; rfl)
        (by rw [filterRequest_second, filterMode_none hmode])
    · exact Routing.filter_noKey _ (by rwa [filterRequest_top]) (filterRequest_noKey hkey h sub more)
  have ht := hturn.submit_filter hwhole hfilter
  exact ⟨_, exec_of_record i s hrecord, ht.done, ht.onlyPorts rfl⟩

end

section
/-! SUPPORT. The record of a WAKESET, read back (R193), and its checks (R139). -/

namespace Sys2Proof.Machine

open Sys2Proof

/-! ### Word 1 of a WAKESET -/

/-- Word 1 of a WAKESET (R193). -/
def wakesetWord (n : BitVec 4) (enabled : Bool) (station : Byte) (point : Half) : Word :=
  (n ++ BitVec.ofBool enabled ++ (0 : BitVec 3) ++ station ++ point : BitVec 32)

section

variable (h : Header) (n : BitVec 4) (enabled : Bool) (station : Byte) (point : Half) (rest : List Word)

/-- The request of a WAKESET, with the words behind its word 1. -/
def wakesetRequest : Request := ⟨headerWord reqWakeset h, wakesetWord n enabled station point :: rest⟩

@[simp] theorem wakesetRequest_kind : (wakesetRequest h n enabled station point rest).kind = reqWakeset :=
  Request.kind_headerWord ..

@[simp] theorem wakesetRequest_tag : (wakesetRequest h n enabled station point rest).tag = h.tag :=
  Request.tag_headerWord ..

@[simp] theorem wakesetRequest_second : (wakesetRequest h n enabled station point rest).second = station :=
  BitVec.extractLsb'_append_eq_of_le (by decide) |>.trans BitVec.extractLsb'_append_eq_right

@[simp] theorem wakesetRequest_low : (wakesetRequest h n enabled station point rest).low = point :=
  BitVec.extractLsb'_append_eq_right

@[simp] theorem wakesetRequest_number : (wakesetRequest h n enabled station point rest).patternNumber = n.toNat :=
  congrArg BitVec.toNat (calc
    _ = BitVec.extractLsb' 12 4 (n ++ BitVec.ofBool enabled ++ (0 : BitVec 3) ++ station) :=
      BitVec.extractLsb'_append_eq_of_le (by decide)
    _ = BitVec.extractLsb' 4 4 (n ++ BitVec.ofBool enabled ++ (0 : BitVec 3)) :=
      BitVec.extractLsb'_append_eq_of_le (by decide)
    _ = BitVec.extractLsb' 1 4 (n ++ BitVec.ofBool enabled) := BitVec.extractLsb'_append_eq_of_le (by decide)
    _ = n := BitVec.extractLsb'_append_eq_left)

@[simp] theorem wakesetRequest_enabled : (wakesetRequest h n enabled station point rest).pattern.enabled = enabled := by
  show @BitVec.getLsbD (4 + 1 + 3 + 8 + 16)
    (n ++ BitVec.ofBool enabled ++ (0 : BitVec 3) ++ station ++ point) 27 = enabled
  iterate 4 rw [BitVec.getLsbD_append]
  simp

@[simp] theorem wakesetRequest_isLine : (wakesetRequest h n enabled station point rest).isLine = false := by
  rw [Request.isLine, wakesetRequest_kind]
  rfl

theorem wakesetRequest_completion (status : Status) :
    completionOf (wakesetRequest h n enabled station point rest) status 0 0 []
      = localRecord 12#4 h station status 0 [] := by
  have hstation : (wakesetRequest h n enabled station point rest).station = station := by
    rw [Request.station, wakesetRequest_isLine, wakesetRequest_kind, wakesetRequest_second]
    rfl
  rw [completionOf, wakesetRequest_isLine, wakesetRequest_kind, wakesetRequest_tag, hstation]
  rfl

end

/-- The pattern that a WAKESET of three words carries (R139). -/
theorem wakesetRequest_pattern (h : Header) (n : BitVec 4) (enabled : Bool) (station : Byte)
    (point bits compare : Half) :
    (wakesetRequest h n enabled station point [(bits ++ compare : BitVec 32)]).pattern
      = ⟨enabled, station, point, bits, compare⟩ := by
  have hbits : BitVec.extractLsb' 16 16 (bits ++ compare) = bits := BitVec.extractLsb'_append_eq_left
  have hcompare : BitVec.extractLsb' 0 16 (bits ++ compare) = compare := BitVec.extractLsb'_append_eq_right
  calc (wakesetRequest h n enabled station point [(bits ++ compare : BitVec 32)]).pattern
      = ⟨(wakesetRequest h n enabled station point [(bits ++ compare : BitVec 32)]).pattern.enabled,
          (wakesetRequest h n enabled station point [(bits ++ compare : BitVec 32)]).second,
          (wakesetRequest h n enabled station point [(bits ++ compare : BitVec 32)]).low,
          BitVec.extractLsb' 16 16 (bits ++ compare), BitVec.extractLsb' 0 16 (bits ++ compare)⟩ := rfl
    _ = ⟨enabled, station, point, bits, compare⟩ := by
      rw [wakesetRequest_enabled, wakesetRequest_second, wakesetRequest_low, hbits, hcompare]

/-! ### Its words (R144) -/

section

variable (h : Header) (n : BitVec 4) (enabled : Bool) (station : Byte) (point bits compare : Half) (more : List Word)

/-- The words of a WAKESET behind its word 1: none where the length is taken as 2 (R144). -/
def wakesetRest : List Word :=
  if takenLength (headerWord reqWakeset h) = 2 then [] else (bits ++ compare : BitVec 32) :: more

theorem wakesetRecord_eq : wakesetRecord h n enabled station point bits compare more
    = headerWord reqWakeset h :: wakesetWord n enabled station point :: wakesetRest h bits compare more := by
  by_cases hshort : takenLength (headerWord reqWakeset h) = 2
  · rw [wakesetRest, if_pos hshort]
    exact congrArg (headerWord reqWakeset h :: ·) (if_pos hshort)
  · rw [wakesetRest, if_neg hshort]
    exact congrArg (headerWord reqWakeset h :: ·) (if_neg hshort)

variable {h n enabled station point bits compare more}

/-- A WAKESET of length 3 is three words (R144). -/
theorem wakesetRest_three (hlength : h.length = 3#8)
    (hwhole : wholeRecord (wakesetRecord h n enabled station point bits compare more) = true) :
    wakesetRest h bits compare more = [(bits ++ compare : BitVec 32)] := by
  have htaken : takenLength (headerWord reqWakeset h) = 3 := by
    rw [takenLength_headerWord, hlength]
    rfl
  have hrest : wakesetRest h bits compare more = (bits ++ compare : BitVec 32) :: more :=
    if_neg (by rw [htaken]; decide)
  rw [wakesetRecord_eq, hrest] at hwhole
  have hcount := of_decide_eq_true hwhole
  rw [htaken, List.length_cons, List.length_cons] at hcount
  rw [hrest, List.eq_nil_of_length_eq_zero (by omega : more.length = 0)]

end

/-! ### Its checks (R139) -/

theorem Request.wakesetBad_iff (r : Request) : r.wakesetBad = true ↔ r.wrongLength 3 = true ∨ 3 < r.patternNumber
    ∨ (r.pattern.enabled = true ∧ stationAddress r.second = false) := by
  have hstation : r.pattern.station = r.second := rfl
  simp [Request.wakesetBad, hstation, or_assoc]

theorem Routing.wakeset_bad (f : Routing) {r : Request} (h : r.wakesetBad = true) : f.wakeset r = (f, .badReq) :=
  if_pos h

theorem Routing.wakeset_sets (f : Routing) {r : Request} (h : ¬ r.wakesetBad = true) :
    f.wakeset r = ({ f with patterns := f.patterns.set (Fin.ofNat 4 r.patternNumber) r.pattern }, .ok) := if_neg h

section

variable {h : Header} {n : BitVec 4} {enabled : Bool} {station : Byte} {point : Half} {rest : List Word}

/-- The checks by the fields of the command (R139). -/
theorem wakesetRequest_bad_iff
    (hwhole : wholeRecord (headerWord reqWakeset h :: wakesetWord n enabled station point :: rest) = true) :
    (wakesetRequest h n enabled station point rest).wakesetBad = true
      ↔ h.length ≠ 3#8 ∨ 3 < n.toNat ∨ (enabled = true ∧ stationAddress station = false) := by
  have hlength : (wakesetRequest h n enabled station point rest).wrongLength 3 = true ↔ h.length ≠ 3#8 :=
    (Request.wrongLength_iff ⟨by decide, by decide⟩ hwhole).trans (not_congr (BitVec.toNat_inj (y := 3#8)))
  rw [Request.wakesetBad_iff, hlength, wakesetRequest_number, wakesetRequest_enabled, wakesetRequest_second]

/-- A WAKESET submitted on its turn leaves the patterns it gives, and completes with its status. -/
theorem State.LocalTurn.submit_wakeset {s : State} {p : Port} (hturn : s.LocalTurn p)
    (hwhole : wholeRecord (headerWord reqWakeset h :: wakesetWord n enabled station point :: rest) = true) {f : Routing}
    {status : Status} (hf : (s.routing.get p).wakeset (wakesetRequest h n enabled station point rest) = (f, status)) :
    RoutingDone s (s.submitWords p (headerWord reqWakeset h :: wakesetWord n enabled station point :: rest)) p f
      (localRecord 12#4 h station status 0 []) := by
  refine hturn.submit_routing hwhole (wakesetRequest_isLine ..) ?_
  rw [← wakesetRequest_completion h n enabled station point rest]
  show (s.queueing p (wakesetRequest h n enabled station point rest)).doLocal p
    (wakesetRequest h n enabled station point rest) = _
  have hrouting : (s.queueing p (wakesetRequest h n enabled station point rest)).routing = s.routing := rfl
  rw [State.doLocal, wakesetRequest_kind]
  show State.doWakeset _ p _ = _
  rw [State.doWakeset, hrouting, hf]
  rfl

end

end Sys2Proof.Machine
end

section
/-! CLAIM. WAKESET. -/

open Sys2Proof Sys2Proof.Machine

/-- Settles O32: a WAKESET that fails a check leaves the patterns, and any other sets the one it names. -/
theorem wakesetSetsThePattern : Obligations.WakesetSetsThePattern := by
  intro s p h n enabled station point bits compare more hturn hwf
  have hrecord := Instr.wholeRecord_of_wf
    (i := .wakeset p h n enabled station point bits compare more) rfl hwf
  have hwhole := hrecord
  rw [wakesetRecord_eq] at hwhole
  have hexec : exec (.wakeset p h n enabled station point bits compare more) s
      = .next (s.submitWords p (headerWord reqWakeset h :: wakesetWord n enabled station point
          :: wakesetRest h bits compare more)) :=
    congrArg (fun words => Host.Outcome.next (s.submitWords p words))
      (wakesetRecord_eq h n enabled station point bits compare more)
  refine ⟨fun hbad => ?bad, fun j hlength hn hstation => ?sets⟩
  case bad =>
    have ht := hturn.submit_wakeset hwhole (Routing.wakeset_bad _ ((wakesetRequest_bad_iff hwhole).mpr hbad))
    exact ⟨_, hexec, ht.done, ht.onlyPorts rfl⟩
  case sets =>
    have hgood : ¬ (wakesetRequest h n enabled station point (wakesetRest h bits compare more)).wakesetBad = true := by
      rw [wakesetRequest_bad_iff hwhole]
      rintro (hother | hlarge | ⟨henabled, hnone⟩)
      · exact hother hlength
      · exact absurd hlarge (by omega)
      · rcases hstation with hdisabled | hgiven
        · exact Bool.noConfusion (henabled.symm.trans hdisabled)
        · exact Bool.noConfusion (hgiven.symm.trans hnone)
    have ht := hturn.submit_wakeset hwhole (Routing.wakeset_sets _ hgood)
    refine ⟨_, hexec, ht.done, ht.onlyRouting, ?_⟩
    rw [ht.get, wakesetRequest_number, hn, Fin.ofNat_val_eq_self, wakesetRest_three hlength hrecord,
      wakesetRequest_pattern]

end

section
/-! SUPPORT. The routing of an accepted report (R108, R122, R127-R130): what it leaves of each watch, of each port and
of the entry of the station. -/

namespace Sys2Proof.Machine

open Sys2Proof

/-! ### One port (R128-R130) -/

/-- WAKE handed to the port when a pattern matches (R128). -/
def PortUnit.woken (u : PortUnit) (hit : Bool) : PortUnit :=
  if hit then { u with sticky := u.sticky.setWake } else u

/-- A record with items joins the tail of a queue that has room (R129, R130). -/
def PortUnit.recorded (u : PortUnit) (record : ItemsRecord) : PortUnit :=
  if record.items.isEmpty then u
  else if u.reports.length < Config.reportPlaces then { u with reports := u.reports ++ [record] }
  else u

/-- The routing at one port is the notice and then the record (R128, R129). -/
theorem PortUnit.routed_eq (u : PortUnit) (r : Routing) (station : Byte) (items : List Item) (gap : Bool) :
    u.routed r station items gap
      = (u.woken (r.wakes station items)).recorded ⟨station, gap, items.filter (r.accepts station)⟩ := rfl

theorem PortUnit.woken_wake (u : PortUnit) (hit : Bool) : (u.woken hit).sticky.wake = (u.sticky.wake || hit) := by
  cases hit with
  | true => exact (Bool.or_true _).symm
  | false => exact (Bool.or_false _).symm

theorem PortUnit.woken_reports (u : PortUnit) (hit : Bool) : (u.woken hit).reports = u.reports := by
  cases hit <;> rfl

theorem PortUnit.recorded_eq (u : PortUnit) (record : ItemsRecord) : u.recorded record = { u with
    reports := if record.items ≠ [] ∧ u.reports.length < 32 then u.reports ++ [record] else u.reports } := by
  by_cases hnone : record.items = []
  · rw [if_neg fun h => h.1 hnone]
    exact if_pos (List.isEmpty_iff.mpr hnone)
  · have hsome : ¬ record.items.isEmpty = true := mt List.isEmpty_iff.mp hnone
    by_cases hroom : u.reports.length < 32
    · rw [if_pos ⟨hnone, hroom⟩]
      exact (if_neg hsome).trans (if_pos hroom)
    · rw [if_neg fun h => hroom h.2]
      exact (if_neg hsome).trans (if_neg hroom)

/-- The gap mark says whether the record found no room; with no item accepted it stays (R130). -/
theorem gapAfter_eq (r : Routing) (u : PortUnit) (station : Byte) (items : List Item) (gap : Bool) :
    gapAfter r u station items gap
      = if items.filter (r.accepts station) = [] then gap else decide (32 ≤ u.reports.length) := by
  simp only [gapAfter, List.isEmpty_iff]
  rfl

/-! ### All blocks (R108, R122, R127) -/

theorem State.breakWatches_wake (s : State) (hit : Cover → Bool) (c : BreakCause) (o : Option (Port × WatchNo))
    (q : Port) : ((s.breakWatches hit c o).port q).sticky.wake = (s.port q).sticky.wake := by
  rw [s.breakWatches_told]
  split <;> rfl

theorem State.breakWatches_reports (s : State) (hit : Cover → Bool) (c : BreakCause) (o : Option (Port × WatchNo))
    (q : Port) : ((s.breakWatches hit c o).port q).reports = (s.port q).reports := by
  rw [s.breakWatches_told]
  split <;> rfl

/-- The gap marks of an entry after a report of its station: each attached port's by its own filter (R127, R130). -/
def State.gapsAfter (s : State) (e : Entry) (station : Byte) (items : List Item) : PortSet :=
  Quad.ofFn fun p =>
    if e.attached.get p then gapAfter (s.routing.get p) (s.port p) station items (e.gaps.get p) else e.gaps.get p

section

variable (s : State) {k : Nat} {e : Entry} (he : s.entry k = some e) (station : Byte) (items : List Item)

include he

/-- The watches that hold an item's point break (R108). -/
theorem State.route_watch (q : Port) (j : WatchNo) :
    (s.route k station items).watch q j = (s.watch q j).breakBy (hitsReport station items) .report := by
  simp only [State.route, he]
  rw [State.watch_congr (State.updEntry_watches _ _ _), State.watch_congr (State.updPorts_watches _ _),
    s.breakWatches_all]

/-- After the breaks each attached port takes the items by its own filter and patterns, with its gap mark (R122,
R127). -/
theorem State.route_port (p : Port) :
    (s.route k station items).port p = if e.attached.get p then
        ((s.breakWatches (hitsReport station items) .report none).port p).routed (s.routing.get p) station items
          (e.gaps.get p)
      else (s.breakWatches (hitsReport station items) .report none).port p := by
  simp only [State.route, he]
  rw [State.port, State.updEntry_ports]
  exact State.updPorts_port _ _ p

/-- Of the entry the gap marks change (R127, R130). -/
theorem State.route_gaps : (s.route k station items).entry k = some { e with gaps := s.gapsAfter e station items } := by
  simp only [State.route, he]
  have hports : ∀ f, ((s.breakWatches (hitsReport station items) .report none).updPorts f).entry k = some e :=
    fun _ => he
  exact State.updEntry_entry_same _ (hports _) _

end

end Sys2Proof.Machine
end

section
/-! CLAIM. The routing of a report. -/

open Sys2Proof Sys2Proof.Machine

/-- Settles O48: the breaks leave the records and WAKE as they are; an attached port is then routed by its own filter
and patterns, and one that is not attached is passed over. -/
theorem reportsAreRouted : Obligations.ReportsAreRouted := by
  refine fun s k station items e he => ⟨s.route_watch he station items, fun p =>
    ⟨fun hother => ?_, fun hattached => ?_⟩⟩
  · rw [s.route_port he, if_neg (by simp [hother])]
    exact ⟨s.breakWatches_reports _ _ _ p, s.breakWatches_wake _ _ _ p⟩
  · rw [s.route_port he, if_pos hattached]
    refine ⟨?wake, ?records, _, s.route_gaps he station items, ?gap⟩
    case wake =>
      rw [PortUnit.routed_eq, PortUnit.recorded_eq, PortUnit.woken_wake, s.breakWatches_wake]
      rfl
    case records => rw [PortUnit.routed_eq, PortUnit.recorded_eq, PortUnit.woken_reports, s.breakWatches_reports]
    case gap => rw [State.gapsAfter, Quad.get_ofFn, if_pos hattached, gapAfter_eq]

end

section
/-! SUPPORT. The books of a port (R146, R166): its credits, requests and records, and the changes with which they stay
balanced. -/

-- Under this option Lean elaborates the proofs one after another: each thread of its own would reserve its own memory.
set_option deprecated.oldSectionVars true

namespace Sys2Proof.Machine

open Sys2Proof

/-! ### One port

The properties of this part are conjunctions, not structures: while Lean adds a structure, the proofs before it wait, and
each that waits holds memory of its own. -/

/-- The books of a port: its credits, its requests not yet ended and its records not yet taken come to 16; a CLOSED port
holds no work, and a CLOSING port at most its request in flight. -/
abbrev PortUnit.Balanced (u : PortUnit) : Prop :=
  u.credits + u.queue.length + u.inFlight.toList.length + u.completions.length = Config.credits
    ∧ (u.state = .closed → u.queue = [] ∧ u.inFlight = none ∧ u.completions = [])
    ∧ (u.state = .closing → u.queue = [] ∧ u.completions = [])

/-- The books of the port go on: they stay balanced, no request comes into flight, and the port neither leaves CLOSED nor
comes to CLOSING. -/
abbrev PortUnit.BooksGoOn (u v : PortUnit) : Prop :=
  (u.state = .closed → v.state = .closed) ∧ (v.state = .closing → u.state = .closing)
    ∧ (v.inFlight.isSome = true → u.inFlight.isSome = true) ∧ (u.Balanced → v.Balanced)

/-- What makes the head of the port ready is as it was (R147). -/
abbrev PortUnit.SameTurn (u v : PortUnit) : Prop :=
  v.queue = u.queue ∧ v.headMark = u.headMark ∧ v.inFlight = u.inFlight

section

variable {u v : PortUnit}

theorem PortUnit.Balanced.accounted (h : u.Balanced) :
    u.credits + u.queue.length + u.inFlight.toList.length + u.completions.length = Config.credits := h.1

theorem PortUnit.Balanced.closed (h : u.Balanced) :
    u.state = .closed → u.queue = [] ∧ u.inFlight = none ∧ u.completions = [] := h.2.1

theorem PortUnit.Balanced.closing (h : u.Balanced) : u.state = .closing → u.queue = [] ∧ u.completions = [] := h.2.2

theorem PortUnit.BooksGoOn.closed (h : u.BooksGoOn v) : u.state = .closed → v.state = .closed := h.1

theorem PortUnit.BooksGoOn.closing (h : u.BooksGoOn v) : v.state = .closing → u.state = .closing := h.2.1

theorem PortUnit.BooksGoOn.flight (h : u.BooksGoOn v) : v.inFlight.isSome = true → u.inFlight.isSome = true := h.2.2.1

theorem PortUnit.BooksGoOn.balanced (h : u.BooksGoOn v) : u.Balanced → v.Balanced := h.2.2.2

end

/-- A change beside the books. -/
theorem PortUnit.BooksGoOn.of_same {u v : PortUnit} (hstate : v.state = u.state) (hqueue : v.queue = u.queue)
    (hflight : v.inFlight = u.inFlight) (hrecords : v.completions = u.completions) (hcredits : v.credits = u.credits) :
    u.BooksGoOn v := by
  refine ⟨hstate.trans, hstate.symm.trans, fun h => hflight ▸ h, fun h => ⟨?_, fun hclosed => ?_, fun hclosing => ?_⟩⟩
  · rw [hqueue, hflight, hrecords, hcredits]; exact h.accounted
  · rw [hqueue, hflight, hrecords]; exact h.closed (hstate.symm.trans hclosed)
  · rw [hqueue, hrecords]; exact h.closing (hstate.symm.trans hclosing)

theorem PortUnit.BooksGoOn.refl (u : PortUnit) : u.BooksGoOn u := .of_same rfl rfl rfl rfl rfl

theorem PortUnit.BooksGoOn.trans {u v w : PortUnit} (h : u.BooksGoOn v) (h' : v.BooksGoOn w) : u.BooksGoOn w :=
  ⟨fun hu => h'.closed (h.closed hu), fun hw => h.closing (h'.closing hw), fun hw => h.flight (h'.flight hw),
    fun hu => h'.balanced (h.balanced hu)⟩

theorem PortUnit.SameTurn.refl (u : PortUnit) : u.SameTurn u := ⟨rfl, rfl, rfl⟩

theorem PortUnit.SameTurn.trans {u v w : PortUnit} (h : u.SameTurn v) (h' : v.SameTurn w) : u.SameTurn w :=
  ⟨h'.1.trans h.1, h'.2.1.trans h.2.1, h'.2.2.trans h.2.2⟩

/-- A port with work to do is neither CLOSED nor CLOSING. -/
theorem PortUnit.Balanced.at_work {u : PortUnit} (h : u.Balanced) (hwork : u.queue ≠ [] ∨ u.completions ≠ []) :
    u.state ≠ .closed ∧ u.state ≠ .closing := by
  refine ⟨fun hclosed => ?_, fun hclosing => ?_⟩
  · obtain ⟨hqueue, -, hrecords⟩ := h.closed hclosed
    exact hwork.elim (· hqueue) (· hrecords)
  · obtain ⟨hqueue, hrecords⟩ := h.closing hclosing
    exact hwork.elim (· hqueue) (· hrecords)

/-- Work that changes hands within its count, on a port that is neither CLOSED nor CLOSING. -/
theorem PortUnit.BooksGoOn.of_count {u v : PortUnit} (hstate : v.state = u.state)
    (hflight : v.inFlight.isSome = true → u.inFlight.isSome = true)
    (hcount : v.credits + v.queue.length + v.inFlight.toList.length + v.completions.length
      = u.credits + u.queue.length + u.inFlight.toList.length + u.completions.length)
    (hopen : u.Balanced → u.state ≠ .closed ∧ u.state ≠ .closing) : u.BooksGoOn v :=
  ⟨hstate.trans, hstate.symm.trans, hflight, fun h => ⟨hcount.trans h.accounted,
    fun hclosed => absurd (hstate.symm.trans hclosed) (hopen h).1,
    fun hclosing => absurd (hstate.symm.trans hclosing) (hopen h).2⟩⟩

/-- A request leaves the head of the queue for a record (R147, R161). -/
theorem PortUnit.booksGoOn_endHead (u : PortUnit) (c : Completion) : u.BooksGoOn (u.endHead c) := by
  unfold PortUnit.endHead
  split
  · exact .refl u
  next r rest hqueue =>
    refine .of_count rfl id ?_ fun h => h.at_work (.inl (by simp [hqueue]))
    simp only [PortUnit.place, hqueue, List.length_append, List.length_cons, List.length_nil]
    omega

/-- A request joins the queue of a port that admits it, for a credit (R145, R146). -/
theorem PortUnit.booksGoOn_queueing {u : PortUnit} (r : Request) (hadmits : u.state.admits = true)
    (hcredit : u.credits ≠ 0) : u.BooksGoOn { u with queue := u.queue ++ [r], credits := u.credits - 1 } := by
  refine .of_count rfl id ?_ fun _ => ⟨fun h => ?_, fun h => ?_⟩
  · simp only [List.length_append, List.length_cons, List.length_nil]
    omega
  · rw [h] at hadmits; cases hadmits
  · rw [h] at hadmits; cases hadmits

/-- The last word of a completion record returns its credit (R164). -/
theorem PortUnit.booksGoOn_takeCompletionWord (u : PortUnit) : u.BooksGoOn u.takeCompletionWord.1 := by
  unfold PortUnit.takeCompletionWord
  split
  · exact .refl u
  · split
    · exact .of_same rfl rfl rfl rfl rfl
    next c rest hrecords =>
      simp only
      split
      · exact .of_same rfl rfl rfl rfl rfl
      · refine .of_count rfl id ?_ fun h => h.at_work (.inr (by simp [hrecords]))
        simp only [hrecords, List.length_cons]
        omega

/-- The request in flight gives way to its credit, and a CLOSING port is then CLOSED (R148, R171). -/
theorem PortUnit.booksGoOn_dropFlight (u : PortUnit) :
    u.BooksGoOn { u.dropFlight with state := if u.state = .closing then .closed else u.state } := by
  have hdropped : u.dropFlight.inFlight = none ∧ u.dropFlight.queue = u.queue
      ∧ u.dropFlight.completions = u.completions
      ∧ u.dropFlight.credits = u.credits + u.inFlight.toList.length := by
    unfold PortUnit.dropFlight
    split <;> simp [*]
  obtain ⟨hflight, hqueue, hrecords, hcredits⟩ := hdropped
  refine ⟨fun hclosed => ?_, fun hclosing => ?_, fun hsome => ?_, fun h => ⟨?_, fun hclosed => ?_, fun hclosing => ?_⟩⟩
  · simp [hclosed]
  · simp only at hclosing
    split at hclosing
    · assumption
    · exact hclosing
  · simp only [hflight] at hsome
    cases hsome
  · simp only [hflight, hqueue, hrecords, hcredits, Option.toList_none, List.length_nil]
    have := h.accounted
    omega
  · simp only [hflight, hqueue, hrecords]
    simp only at hclosed
    split at hclosed
    next hclosing =>
      obtain ⟨hempty, hnone⟩ := h.closing hclosing
      exact ⟨hempty, trivial, hnone⟩
    · obtain ⟨hempty, -, hnone⟩ := h.closed hclosed
      exact ⟨hempty, trivial, hnone⟩
  · simp only at hclosing
    split at hclosing
    · cases hclosing
    next hother => exact absurd hclosing hother

/-- The request in flight ends, with a record where the port is not CLOSING (R73, R163, R171). -/
theorem PortUnit.booksGoOn_takesEnd (u : PortUnit) {x : Exchange} (o : Final)
    (hclosing : u.inFlight.isSome = true → u.state = .closing → x.discard = true) : u.BooksGoOn (u.takesEnd x o) := by
  cases hr : u.inFlight with
  | none => simp only [PortUnit.takesEnd, hr]; exact .refl u
  | some r =>
    rw [hr] at hclosing
    cases hx : x.discard with
    | true =>
      simp only [PortUnit.takesEnd, hr, hx, if_true]
      exact u.booksGoOn_dropFlight
    | false =>
      have hopen : u.Balanced → u.state ≠ .closed ∧ u.state ≠ .closing := fun h =>
        ⟨fun hclosed => Option.some_ne_none r (hr.symm.trans (h.closed hclosed).2.1),
          fun h' => Bool.noConfusion (hx.symm.trans (hclosing rfl h'))⟩
      cases hrecord : r.isWrite && r.quiet && decide (o.status = .ok) with
      | true =>
        simp only [PortUnit.takesEnd, PortUnit.dropFlight, hr, hx, hrecord, Bool.false_eq_true, if_false, if_true]
        refine .of_count rfl nofun ?_ hopen
        simp only [hr, Option.toList_none, Option.toList_some, List.length_nil, List.length_cons]
        omega
      | false =>
        rw [u.takesEnd_completes x o r hr hx hrecord]
        refine .of_count rfl nofun ?_ hopen
        simp only [hr, Option.toList_none, Option.toList_some, List.length_nil, List.length_cons, List.length_append]
        omega

/-- The head comes into flight (R90). -/
theorem PortUnit.Balanced.takeHead {u : PortUnit} (h : u.Balanced) {r : Request} {rest : List Request}
    (hqueue : u.queue = r :: rest) (hflight : u.inFlight = none) : u.takeHead.Balanced := by
  have hopen := h.at_work (.inl (by simp [hqueue]))
  rw [u.takeHead_cons hqueue]
  refine ⟨?_, fun hclosed => absurd hclosed hopen.1, fun hclosing => absurd hclosing hopen.2⟩
  have := h.accounted
  simp only [hqueue, hflight, Option.toList_none, Option.toList_some, List.length_nil, List.length_cons] at this ⊢
  omega

/-- A CLOSE returns the credits of all that it empties (R170). -/
theorem PortUnit.Balanced.closes {u : PortUnit} (h : u.Balanced) : u.closes.Balanced := by
  refine ⟨?_, fun hclosed => ⟨rfl, ?_, rfl⟩, fun _ => ⟨rfl, rfl⟩⟩
  · have := h.accounted
    simp only [PortUnit.closes, List.length_nil]
    omega
  · simp only [PortUnit.closes] at hclosed ⊢
    cases hr : u.inFlight with
    | none => rfl
    | some r => rw [hr] at hclosed; cases hclosed

/-- A CLOSED port that opens has its 16 credits (R168). -/
theorem PortUnit.Balanced.opens {u : PortUnit} (h : u.Balanced) (hclosed : u.state = .closed) : u.opens.Balanced := by
  obtain ⟨hqueue, hflight, hrecords⟩ := h.closed hclosed
  exact ⟨by simp [PortUnit.opens, hqueue, hflight, hrecords], nofun, nofun⟩

/-- An attempt changes nothing of an exchange that the other blocks depend on. -/
theorem Exchange.GoesOn.attempting {x : Exchange} {attempt : Nat} {phase : Phase} {failure : Option Failure}
    {buffer : List Half} {next : Nat} {reply holdoff : Option Nat} :
    x.GoesOn { x with attempt := attempt, phase := phase, lastFailure := failure, buffer := buffer, nextIndex := next,
                      replyTimer := reply, holdoffTimer := holdoff } :=
  ⟨rfl, rfl, rfl, rfl, rfl, rfl, id, id⟩

/-! ### The four ports -/

/-- The books of every port go on, and the record with them. -/
abbrev BooksGoOn (s t : State) : Prop :=
  t.run = s.run ∧ RecordGoesOn s.exchange t.exchange ∧ ∀ p, (s.port p).BooksGoOn (t.port p)

/-- The books go on, and what makes a local request ready is as it was. -/
abbrev WorkGoesOn (s t : State) : Prop := BooksGoOn s t ∧ ∀ p, (s.port p).SameTurn (t.port p)

section

variable {s t u : State}

theorem BooksGoOn.run (h : BooksGoOn s t) : t.run = s.run := h.1

theorem BooksGoOn.record (h : BooksGoOn s t) : RecordGoesOn s.exchange t.exchange := h.2.1

theorem BooksGoOn.port (h : BooksGoOn s t) (p : Port) : (s.port p).BooksGoOn (t.port p) := h.2.2 p

theorem WorkGoesOn.toBooksGoOn (h : WorkGoesOn s t) : BooksGoOn s t := h.1

theorem WorkGoesOn.run (h : WorkGoesOn s t) : t.run = s.run := h.toBooksGoOn.run

theorem WorkGoesOn.turn (h : WorkGoesOn s t) (p : Port) : (s.port p).SameTurn (t.port p) := h.2 p

theorem BooksGoOn.refl (s : State) : BooksGoOn s s := ⟨rfl, .refl _, fun _ => .refl _⟩

theorem BooksGoOn.trans (h : BooksGoOn s t) (h' : BooksGoOn t u) : BooksGoOn s u :=
  ⟨h'.run.trans h.run, h.record.trans h'.record, fun p => (h.port p).trans (h'.port p)⟩

theorem WorkGoesOn.refl (s : State) : WorkGoesOn s s := ⟨.refl s, fun _ => .refl _⟩

theorem WorkGoesOn.trans (h : WorkGoesOn s t) (h' : WorkGoesOn t u) : WorkGoesOn s u :=
  ⟨h.toBooksGoOn.trans h'.toBooksGoOn, fun p => (h.turn p).trans (h'.turn p)⟩

theorem WorkGoesOn.ite {a b : State} {c : Prop} [Decidable c] (ha : WorkGoesOn s a) (hb : WorkGoesOn s b) :
    WorkGoesOn s (if c then a else b) := by
  split
  · exact ha
  · exact hb

/-- A change that no port sees. -/
theorem WorkGoesOn.of_ports (hports : t.ports = s.ports) (hrun : t.run = s.run)
    (hrecord : RecordGoesOn s.exchange t.exchange) : WorkGoesOn s t := by
  have hport : ∀ p, t.port p = s.port p := fun p => congrArg (Quad.get · p) hports
  exact ⟨⟨hrun, hrecord, fun p => by rw [hport]; exact .refl _⟩, fun p => by rw [hport]; exact .refl _⟩

theorem BooksGoOn.of_ports (hports : t.ports = s.ports) (hrun : t.run = s.run)
    (hrecord : RecordGoesOn s.exchange t.exchange) : BooksGoOn s t :=
  (WorkGoesOn.of_ports hports hrun hrecord).toBooksGoOn

theorem CreditInv.balanced (h : CreditInv s) (p : Port) : (s.port p).Balanced :=
  ⟨h.accounted p, h.closed p, h.closing p⟩

/-- With no request in flight, balanced books are all that the credits ask for. -/
theorem creditInv_of_grounded (hbalanced : ∀ p, (t.port p).Balanced) (hflight : ∀ p, (t.port p).inFlight = none)
    (hunloaded : t.run = .powerOn ∨ t.run = .loading → ∀ p, (t.port p).state = .closed) : CreditInv t where
  accounted p := (hbalanced p).accounted
  closed p := (hbalanced p).closed
  closing p := (hbalanced p).closing
  flight p hp := by rw [hflight] at hp; cases hp
  unloaded := hunloaded

/-- On an idle record no request is in flight. -/
theorem CreditInv.grounded (h : CreditInv s) (hx : s.exchange = none) (p : Port) : (s.port p).inFlight = none := by
  cases hp : (s.port p).inFlight with
  | none => rfl
  | some r =>
    obtain ⟨x, hsome, -⟩ := h.flight p (by rw [hp]; rfl)
    cases hx.symm.trans hsome

theorem CreditInv.goesOn (h : CreditInv s) (hgo : BooksGoOn s t) : CreditInv t where
  accounted p := ((hgo.port p).balanced (h.balanced p)).accounted
  closed p := ((hgo.port p).balanced (h.balanced p)).closed
  closing p := ((hgo.port p).balanced (h.balanced p)).closing
  flight p hp := by
    obtain ⟨x, hx, horigin, hdiscard⟩ := h.flight p ((hgo.port p).flight hp)
    obtain ⟨y, hy, hxy⟩ := (hx ▸ hgo.record).to_some
    refine ⟨y, hy, hxy.origin.trans horigin, fun hclosing => ?_⟩
    by_contra hkeep
    cases (hdiscard ((hgo.port p).closing hclosing)).symm.trans (hxy.discard (Bool.eq_false_of_not_eq_true hkeep))
  unloaded hrun p := (hgo.port p).closed (h.unloaded (hgo.run ▸ hrun) p)

/-- From an idle record, whatever exchange of the part's own starts. -/
theorem CreditInv.goesOn_idle (h : CreditInv s) (hx : s.exchange = none) (hrun : t.run = s.run)
    (hports : ∀ p, (s.port p).BooksGoOn (t.port p)) : CreditInv t := by
  refine creditInv_of_grounded (fun p => (hports p).balanced (h.balanced p)) (fun p => ?_)
    fun hstart p => (hports p).closed (h.unloaded (hrun ▸ hstart) p)
  cases hp : (t.port p).inFlight with
  | none => rfl
  | some r =>
    have hsome := (hports p).flight (by rw [hp]; rfl)
    rw [h.grounded hx] at hsome
    cases hsome

/-- Whether a port's local head may execute depends on its turn and on the part running (R147). -/
theorem PortUnit.SameTurn.localReady {p : Port} (h : (s.port p).SameTurn (t.port p)) (hrun : t.run = s.run) :
    t.localReady p = s.localReady p := by
  obtain ⟨hqueue, hmark, hflight⟩ := h
  unfold State.localReady
  rw [hrun, hqueue, hmark, hflight]

theorem WorkGoesOn.quiet (h : WorkGoesOn s t) (hs : s.Quiet) : t.Quiet :=
  fun p => ((h.turn p).localReady h.run).trans (hs p)

end

/-! ### The operations -/

section

variable {s : State}

theorem BooksGoOn.updPort {p : Port} {f : PortUnit → PortUnit} (h : (s.port p).BooksGoOn (f (s.port p))) :
    BooksGoOn s (s.updPort p f) := by
  refine ⟨rfl, .refl _, fun q => ?_⟩
  rw [State.updPort_port]
  split
  next hq => rw [hq]; exact h
  · exact .refl _

theorem WorkGoesOn.updPort {p : Port} {f : PortUnit → PortUnit} (h : (s.port p).BooksGoOn (f (s.port p)))
    (hturn : (s.port p).SameTurn (f (s.port p))) : WorkGoesOn s (s.updPort p f) := by
  refine ⟨.updPort h, fun q => ?_⟩
  rw [State.updPort_port]
  split
  next hq => rw [hq]; exact hturn
  · exact .refl _

theorem WorkGoesOn.send (s : State) (p : Port) (w : Word) : WorkGoesOn s (s.send p w) :=
  .updPort (.of_same rfl rfl rfl rfl rfl) ⟨rfl, rfl, rfl⟩

/-- What the outcome of an exchange reaches at the other blocks is no work of a port. -/
theorem OutcomeReaches.workGoesOn {t : State} (h : OutcomeReaches s t) : WorkGoesOn s t := by
  refine ⟨⟨(congrArg State.run h.rest :), by rw [h.exchange]; exact .refl _, fun p => ?_⟩, fun p => ?_⟩ <;>
    obtain ⟨f, records, hport⟩ := h.port p <;> rw [hport]
  · exact .of_same rfl rfl rfl rfl rfl
  · exact ⟨rfl, rfl, rfl⟩

theorem OutcomeReaches.heard (s : State) (k : Nat) : OutcomeReaches s (s.heard k) := by
  unfold State.heard
  split
  · exact .refl s
  · split
    · exact .setEntry s k _
    · exact (OutcomeReaches.setEntry s k _).trans (.changeState _ k .online)
    · exact .refl s
    · exact .refl s

theorem WorkGoesOn.setRecord {x : Exchange} (hx : s.Holds x) : WorkGoesOn s { s with exchange := some x } :=
  .of_ports rfl rfl (GoesOn.setRecord hx).slots.exchange

end

end Sys2Proof.Machine
end

section
/-! SUPPORT. What a change takes up at once (R79, R147) keeps the credits accounted, and leaves no local request that may
execute: each event uses up part of the load that the queues are. -/

-- Under this option Lean elaborates the proofs one after another: each thread of its own would reserve its own memory.
set_option deprecated.oldSectionVars true

namespace Sys2Proof.Machine

open Sys2Proof

section

variable {s : State}

/-! ### The execution of a local request (R147) -/

/-- Whatever a local request is, the work of its execution is an ATTACH claim, the leaving of an entry, a slot emptied, a
routing state replaced, the port out of the changed sets, or none (R133-R160). -/
theorem State.doLocal_state (s : State) (p : Port) (r : Request) :
    (s.doLocal p r).state = s ∨ (s.doLocal p r).state = (s.attachClaim p r.top).1
      ∨ (∃ k, (s.doLocal p r).state = s.leaveEntry p k) ∨ (s.doLocal p r).state = s.emptyWatch p r.slot
      ∨ (∃ f, (s.doLocal p r).state = s.setRouting p f) ∨ (s.doLocal p r).state = s.clearChanged p := by
  unfold State.doLocal
  split
  · unfold State.doAttach
    split
    · exact .inl rfl
    · refine .inr (.inl ?_)
      split <;> (next heq => rw [heq]; rfl)
  · split
    · unfold State.doDetach
      split
      · exact .inl rfl
      · split
        · exact .inl rfl
        · split
          · exact .inl rfl
          · split
            · exact .inr (.inr (.inl ⟨_, rfl⟩))
            · exact .inl rfl
    · split
      · unfold State.doRelease
        split
        · exact .inl rfl
        · exact .inr (.inr (.inr (.inl rfl)))
      · split
        · exact .inr (.inr (.inr (.inr (.inl ⟨_, rfl⟩))))
        · split
          · exact .inr (.inr (.inr (.inr (.inl ⟨_, rfl⟩))))
          · split
            · unfold State.doQuery
              split
              · exact .inl rfl
              · split
                · unfold State.doQueryStation
                  split
                  · split <;> exact .inl rfl
                  · exact .inl rfl
                · split
                  · exact .inr (.inr (.inr (.inr (.inr rfl))))
                  · split
                    · exact .inl rfl
                    · split <;> exact .inl rfl
            · split
              · unfold State.doMark
                split <;> exact .inl rfl
              · exact .inl rfl

theorem State.attachClaim_frame (s : State) (p : Port) (a : Byte) :
    (s.attachClaim p a).1.run = s.run ∧ (s.attachClaim p a).1.exchange = s.exchange := by
  unfold State.attachClaim
  split
  · split <;> exact ⟨rfl, rfl⟩
  · split
    · exact ⟨rfl, rfl⟩
    · split <;> exact ⟨rfl, rfl⟩

theorem State.leaveEntry_run (s : State) (p : Port) (k : Nat) : (s.leaveEntry p k).run = s.run :=
  (congrArg State.run (s.leaveEntry_rest p k) :)

theorem WorkGoesOn.leaveEntry (s : State) (p : Port) (k : Nat) : WorkGoesOn s (s.leaveEntry p k) :=
  .of_ports (s.leaveEntry_ports p k) (s.leaveEntry_run p k) (s.leaveEntry_record p k)

/-- The work of a local request is none of the ports' own. -/
theorem State.doLocal_ports (s : State) (p : Port) (r : Request) : (s.doLocal p r).state.ports = s.ports := by
  rcases s.doLocal_state p r with h | h | ⟨k, h⟩ | h | ⟨f, h⟩ | h <;> rw [h]
  · exact s.attachClaim_ports p r.top
  · exact s.leaveEntry_ports p k
  · rfl
  · rfl
  · rfl

theorem WorkGoesOn.doLocal (s : State) (p : Port) (r : Request) : WorkGoesOn s (s.doLocal p r).state := by
  rcases s.doLocal_state p r with h | h | ⟨k, h⟩ | h | ⟨f, h⟩ | h <;> rw [h]
  · exact .refl s
  · obtain ⟨hrun, hx⟩ := s.attachClaim_frame p r.top
    exact .of_ports (s.attachClaim_ports p r.top) hrun (by rw [hx]; exact .refl _)
  · exact .leaveEntry s p k
  · exact .of_ports rfl rfl (.refl _)
  · exact .of_ports rfl rfl (.refl _)
  · exact .of_ports rfl rfl (.refl _)

/-- The head that executes completes and leaves its queue, or is marked WAITING (R147, R154). -/
theorem State.executeHead_cases (s : State) (p : Port) : (s.executeHead p).1 = s ∨ ∃ t, WorkGoesOn s t
    ∧ t.ports = s.ports ∧ ((∃ c, (s.executeHead p).1 = t.updPort p (·.endHead c))
      ∨ (s.executeHead p).1 = t.updPort p ({ · with headMark := .waiting })) := by
  unfold State.executeHead
  split
  · exact .inl rfl
  next r rest _ =>
    have hwork := WorkGoesOn.doLocal s p r
    have hports := s.doLocal_ports p r
    split
    next t c heq => rw [heq] at hwork hports; exact .inr ⟨t, hwork, hports, .inl ⟨c, rfl⟩⟩
    next t gained heq => rw [heq] at hwork hports; exact .inr ⟨t, hwork, hports, .inr rfl⟩

theorem BooksGoOn.executeHead (s : State) (p : Port) : BooksGoOn s (s.executeHead p).1 := by
  rcases s.executeHead_cases p with h | ⟨t, hwork, -, ⟨c, h⟩ | h⟩ <;> rw [h]
  · exact .refl s
  · exact hwork.toBooksGoOn.trans (.updPort (PortUnit.booksGoOn_endHead _ c))
  · exact hwork.toBooksGoOn.trans (.updPort (.of_same rfl rfl rfl rfl rfl))

/-! ### The load of the queues -/

/-- What is left to be taken up on a port: two for each queued request, and two for a head that may come to wait or to be
paired. -/
def PortUnit.load (u : PortUnit) : Nat := 2 * u.queue.length + if u.headMark = .none then 2 else 0

/-- What is left to be taken up on the four ports. -/
def State.load (s : State) : Nat := (s.port 0).load + (s.port 1).load + (s.port 2).load + (s.port 3).load

theorem PortUnit.load_le (u : PortUnit) : u.load ≤ 2 * u.queue.length + 2 := by
  unfold PortUnit.load
  split <;> omega

theorem State.load_le (s : State) : s.load ≤ 2 * s.queued + 8 := by
  have h0 := (s.port 0).load_le
  have h1 := (s.port 1).load_le
  have h2 := (s.port 2).load_le
  have h3 := (s.port 3).load_le
  unfold State.load State.queued
  omega

theorem PortUnit.load_endHead (u : PortUnit) (c : Completion) : (u.endHead c).load ≤ u.load := by
  unfold PortUnit.endHead
  split
  · exact Nat.le_refl _
  next r rest hqueue => simp only [PortUnit.load, hqueue, List.length_cons, if_true]; omega

theorem PortUnit.load_takeHead (u : PortUnit) : u.takeHead.load ≤ u.load := by
  unfold PortUnit.takeHead
  split
  · exact Nat.le_refl _
  next r rest hqueue => simp only [PortUnit.load, hqueue, List.length_cons, if_true]; omega

theorem PortUnit.load_marked (u : PortUnit) {mark : HeadMark} (hmark : mark ≠ .none) :
    ({ u with headMark := mark } : PortUnit).load ≤ u.load := by
  simp only [PortUnit.load, hmark, if_false]
  omega

theorem State.load_le_of_ports {s t : State} (h : ∀ p, (t.port p).load ≤ (s.port p).load) : t.load ≤ s.load := by
  have h0 := h 0
  have h1 := h 1
  have h2 := h 2
  have h3 := h 3
  unfold State.load
  omega

/-- Where one port has two less and no other has more, the load is two less. -/
theorem State.load_lt_of_port {s t : State} {p : Port} (hp : (t.port p).load + 2 ≤ (s.port p).load)
    (h : ∀ q, q ≠ p → t.port q = s.port q) : t.load + 2 ≤ s.load := by
  unfold State.load
  match p with
  | 0 => rw [h 1 (by decide), h 2 (by decide), h 3 (by decide)]; omega
  | 1 => rw [h 0 (by decide), h 2 (by decide), h 3 (by decide)]; omega
  | 2 => rw [h 0 (by decide), h 1 (by decide), h 3 (by decide)]; omega
  | 3 => rw [h 0 (by decide), h 1 (by decide), h 2 (by decide)]; omega

/-- A local request that executes is taken off the load (R147). -/
theorem State.executeHead_load {p : Port} (hready : s.localReady p = true) : (s.executeHead p).1.load + 2 ≤ s.load := by
  obtain ⟨r, rest, hqueue, -, -⟩ := State.localReady_spec hready
  have hmark : (s.port p).headMark = .none := by
    simp only [State.localReady, hqueue, Bool.and_eq_true, decide_eq_true_eq] at hready
    exact hready.2.1.2
  have hload : (s.port p).load = 2 * (rest.length + 1) + 2 := by
    simp only [PortUnit.load, hqueue, hmark, List.length_cons, if_true]
  have hwork := s.doLocal_ports p r
  simp only [State.executeHead, hqueue]
  split
  next t c heq =>
    rw [heq] at hwork
    have hport : ∀ q, t.port q = s.port q := fun q => congrArg (Quad.get · q) hwork
    refine State.load_lt_of_port (p := p) ?_ fun q hq => (State.updPort_port_ne _ hq _).trans (hport q)
    rw [State.updPort_port_same, hport, hload]
    simp only [PortUnit.endHead, hqueue, PortUnit.load, PortUnit.place, if_true]
    omega
  next t gained heq =>
    rw [heq] at hwork
    have hport : ∀ q, t.port q = s.port q := fun q => congrArg (Quad.get · q) hwork
    refine State.load_lt_of_port (p := p) ?_ fun q hq => (State.updPort_port_ne _ hq _).trans (hport q)
    rw [State.updPort_port_same, hport, hload]
    simp only [PortUnit.load, hqueue, List.length_cons, reduceCtorEq, if_false]
    omega

/-! ### The choice (R79-R91) -/

/-- From s to t the Arbiter has chosen: no port has more to be taken up, and the credits stay accounted. -/
abbrev Chosen (s t : State) : Prop := (∀ p, (t.port p).load ≤ (s.port p).load) ∧ (CreditInv s → CreditInv t)

theorem Chosen.load {s t : State} (h : Chosen s t) (p : Port) : (t.port p).load ≤ (s.port p).load := h.1 p

theorem Chosen.credits {s t : State} (h : Chosen s t) : CreditInv s → CreditInv t := h.2

theorem Chosen.refl (s : State) : Chosen s s := ⟨fun _ => Nat.le_refl _, id⟩

theorem Chosen.trans {s t u : State} (h : Chosen s t) (h' : Chosen t u) : Chosen s u :=
  ⟨fun p => (h'.load p).trans (h.load p), fun hs => h'.credits (h.credits hs)⟩

/-- On an idle record the choice changes no port, whatever exchange of the part's own it starts. -/
theorem Chosen.of_ports {t : State} (hx : s.exchange = none) (hports : t.ports = s.ports) (hrun : t.run = s.run) :
    Chosen s t := by
  have hport : ∀ p, t.port p = s.port p := fun p => congrArg (Quad.get · p) hports
  exact ⟨fun p => by rw [hport], fun h => h.goesOn_idle hx hrun fun p => by rw [hport]; exact .refl _⟩

/-- On an idle record one port changes, its load not growing. -/
theorem Chosen.updPort (hx : s.exchange = none) {p : Port} {f : PortUnit → PortUnit}
    (hload : (f (s.port p)).load ≤ (s.port p).load) (hbooks : (s.port p).BooksGoOn (f (s.port p))) :
    Chosen s (s.updPort p f) := by
  refine ⟨fun q => ?_, fun h => h.goesOn_idle hx rfl (BooksGoOn.updPort hbooks).port⟩
  rw [State.updPort_port]
  split
  next hq => rw [hq]; exact hload
  · exact Nat.le_refl _

theorem State.walkCursor_frame (fuel : Nat) (s : State) :
    (State.walkCursor fuel s).ports = s.ports ∧ (State.walkCursor fuel s).run = s.run := by
  induction fuel generalizing s with
  | zero => exact ⟨rfl, rfl⟩
  | succ fuel ih =>
    unfold State.walkCursor
    split
    · split
      · split
        · exact ⟨rfl, rfl⟩
        · exact ih _
      · exact ih _
    · exact ⟨rfl, rfl⟩

theorem State.startService_frame (s : State) (item : ServiceItem) (rest : List ServiceItem) :
    (s.startService item rest).ports = s.ports ∧ (s.startService item rest).run = s.run := by
  unfold State.startService
  simp only
  split
  · exact ⟨rfl, rfl⟩
  · split <;> exact ⟨rfl, rfl⟩

/-- A request of the head's port comes into flight with its exchange (R90). -/
theorem Chosen.startRequest (hx : s.exchange = none) {p : Port} {r : Request} {rest : List Request}
    (hqueue : (s.port p).queue = r :: rest) {x : Exchange} (horigin : x.origin = .port p) :
    Chosen s (s.startRequest p r x) := by
  have hport : ∀ q, (s.startRequest p r x).port q = if q = p then (s.port p).takeHead else s.port q := fun q => by
    split
    next hq => rw [hq]; exact s.startRequest_port_same p r x
    next hq => exact s.startRequest_port_ne hq r x
  have hrun : (s.startRequest p r x).run = s.run := (congrArg State.run (s.startRequest_rest p r x) :)
  have hstate : ∀ q, ((s.startRequest p r x).port q).state = (s.port q).state := fun q => by
    rw [hport]
    split
    next hq => rw [hq, PortUnit.takeHead_cons _ hqueue]
    · rfl
  have hbalanced : CreditInv s → ∀ q, ((s.startRequest p r x).port q).Balanced := fun h q => by
    rw [hport]
    split
    · exact (h.balanced p).takeHead hqueue (h.grounded hx p)
    · exact h.balanced q
  refine ⟨fun q => ?load, fun h => ⟨fun q => (hbalanced h q).accounted, fun q => (hbalanced h q).closed,
    fun q => (hbalanced h q).closing, fun q hq => ?flight, fun hstart q => ?unloaded⟩⟩
  case load =>
    rw [hport]
    split
    next hq => rw [hq]; exact PortUnit.load_takeHead _
    · exact Nat.le_refl _
  case flight =>
    rw [hport] at hq
    split at hq
    next hqp =>
      refine ⟨x, rfl, hqp ▸ horigin, fun hclosing => ?_⟩
      rw [hstate, hqp] at hclosing
      exact absurd hclosing ((h.balanced p).at_work (.inl (by simp [hqueue]))).2
    · rw [h.grounded hx] at hq
      cases hq
  case unloaded =>
    rw [hstate]
    exact h.unloaded (hrun ▸ hstart) q

/-- The head starts its exchange, is paired with a resync PING, or stays (R90, R91). -/
theorem Chosen.startHead (hx : s.exchange = none) {p : Port} {r : Request} {rest : List Request}
    (hqueue : (s.port p).queue = r :: rest) : Chosen s (s.startHead p r) := by
  unfold State.startHead
  split
  · exact .startRequest hx hqueue rfl
  · split
    · exact .refl s
    · split
      · exact .refl s
      next k _ e _ =>
        split
        · exact .startRequest hx hqueue rfl
        · split
          · exact .startRequest hx hqueue rfl
          · have hmarked : Chosen s (s.updPort p ({ · with headMark := .paired })) :=
              .updPort hx (PortUnit.load_marked _ nofun) (.of_same rfl rfl rfl rfl rfl)
            exact hmarked.trans (.of_ports hx rfl rfl)

theorem Chosen.choosePort (hx : s.exchange = none) : Chosen s s.choosePort.1 := by
  unfold State.choosePort
  split
  · exact .refl s
  next p u hfound =>
    have hturn : Chosen s { s with arbiter := { s.arbiter with pointer := p, used := u } } := .of_ports hx rfl rfl
    simp only
    split
    · exact hturn
    next r rest hqueue =>
      have honly := State.checkHead_watches { s with arbiter := { s.arbiter with pointer := p, used := u } } p r
      have hchecked : ∀ {t : State} {o}, State.checkHead { s with
          arbiter := { s.arbiter with pointer := p, used := u } } p r = (t, o) →
          Chosen s t ∧ t.exchange = none ∧ t.ports = s.ports := fun heq => by
        rw [heq] at honly
        have hports := (congrArg State.ports honly :)
        exact ⟨.of_ports hx hports (congrArg State.run honly :), (congrArg State.exchange honly :).trans hx, hports⟩
      split
      next t status detail heq =>
        obtain ⟨hchosen, hidle, -⟩ := hchecked heq
        have hended : Chosen t (t.updPort p (·.endHead (completionOf r status detail 0 []))) :=
          .updPort hidle (PortUnit.load_endHead _ _) (PortUnit.booksGoOn_endHead _ _)
        exact hchosen.trans hended
      next t heq =>
        obtain ⟨hchosen, hidle, hports⟩ := hchecked heq
        refine hchosen.trans (.startHead hidle (rest := rest) ?_)
        rw [State.port, hports]
        exact hqueue

theorem Chosen.chooseOnce (hx : s.exchange = none) : Chosen s s.chooseOnce.1 := by
  unfold State.chooseOnce
  split
  next item rest _ =>
    obtain ⟨hports, hrun⟩ := s.startService_frame item rest
    exact .of_ports hx hports hrun
  · obtain ⟨hports, hrun⟩ := s.walkCursor_frame (Config.stationSlots + 1)
    have hwalk : Chosen s (State.walkCursor (Config.stationSlots + 1) s) := .of_ports hx hports hrun
    simp only
    split
    · exact hwalk
    next hidle => exact hwalk.trans (.choosePort hidle)

theorem Chosen.chooseAll (fuel : Nat) (hx : s.exchange = none) : Chosen s (State.chooseAll fuel s) := by
  induction fuel generalizing s with
  | zero => exact .refl s
  | succ fuel ih =>
    have honce := Chosen.chooseOnce hx
    unfold State.chooseAll
    split
    next heq => rw [heq] at honce; exact honce.trans (ih (State.chooseOnce_again heq))
    next heq => rw [heq] at honce; exact honce

theorem Chosen.choice (s : State) : Chosen s s.choice := by
  unfold State.choice
  split
  next h => exact .chooseAll _ h.1
  · exact .refl s

/-! ### What stands ready (R147, R79) -/

theorem State.choose_mem_due {call : Bool} (h : .choose ∈ s.due call) : call = true := by
  rw [State.due, List.mem_append] at h
  rcases h with h | h
  · obtain ⟨q, -, heq⟩ := List.mem_map.mp h
    cases heq
  · split at h
    next hcall => exact (Bool.and_eq_true_iff.mp hcall).1
    · cases h

/-- Where nothing stands ready no local request does. -/
theorem State.quiet_of_due_nil {call : Bool} (h : s.due call = []) : s.Quiet := by
  obtain ⟨hlocal, -⟩ := List.append_eq_nil_iff.mp h
  have hnone := List.filter_eq_nil_iff.mp (List.map_eq_nil_iff.mp hlocal)
  intro p
  have hp : p ∈ ([0, 1, 2, 3] : List Port) := by revert p; decide
  exact Bool.eq_false_of_not_eq_true (hnone p hp)

/-- The event taken first stands ready; taking it up changes no port, and leaves the choice called for if it was. -/
theorem State.takeFirst_due {call : Bool} {first : Due} {rest : List Due} (hdue : s.due call = first :: rest) :
    (s.takeFirst first rest).1 ∈ s.due call ∧ WorkGoesOn s (s.takeFirst first rest).2
      ∧ (s.takeFirst first rest).2.ports = s.ports := by
  obtain ⟨hmem, hstate⟩ := s.takeFirst_spec first rest
  rw [hdue]
  rcases hstate with h | h <;> rw [h]
  · exact ⟨hmem, .refl s, rfl⟩
  · exact ⟨hmem, .of_ports rfl rfl (.refl _), rfl⟩

theorem State.load_of_ports {s t : State} (h : t.ports = s.ports) : t.load = s.load := by
  unfold State.load State.port
  rw [h]

/-- The fuel that exceeds the load is not spent: what stands ready is taken up to the last (R147). -/
theorem State.settleAll_quiet (fuel : Nat) (call : Bool) (s : State) (hfuel : s.load + call.toNat < fuel) :
    (State.settleAll fuel call s).Quiet := by
  induction fuel generalizing s call with
  | zero => omega
  | succ fuel ih =>
    unfold State.settleAll
    split
    next hdue => exact State.quiet_of_due_nil hdue
    next first rest hdue =>
      obtain ⟨hmem, hwork, hports⟩ := State.takeFirst_due hdue
      split
      next p t heq =>
        rw [heq] at hmem hwork hports
        have hready : t.localReady p = true :=
          (State.localReady_congr hwork.run (congrArg (Quad.get · p) hports)).trans (State.localReady_of_due hmem)
        have hload := State.executeHead_load hready
        rw [State.load_of_ports hports] at hload
        have hcalled := Bool.toNat_le (call || (t.executeHead p).2)
        exact ih (call || (t.executeHead p).2) (t.executeHead p).1 (by omega)
      next t heq =>
        rw [heq] at hmem hports
        have hload := State.load_le_of_ports (Chosen.choice t).load
        rw [State.load_of_ports hports] at hload
        rw [State.choose_mem_due hmem] at hfuel
        rw [Bool.toNat_true] at hfuel
        exact ih false t.choice (by rw [Bool.toNat_false]; omega)

/-- No change leaves a local request that may execute, whatever it began with (R147). -/
theorem State.settle_quiet (s : State) (call : Bool) : (s.settle call).Quiet := by
  refine State.settleAll_quiet _ call s ?_
  have hload := s.load_le
  have hcall := Bool.toNat_le call
  unfold State.settleFuel
  omega

theorem CreditInv.settleAll (fuel : Nat) (call : Bool) (h : CreditInv s) : CreditInv (State.settleAll fuel call s) := by
  induction fuel generalizing s call with
  | zero => exact h
  | succ fuel ih =>
    unfold State.settleAll
    split
    · exact h
    next first rest hdue =>
      obtain ⟨-, hwork, -⟩ := State.takeFirst_due hdue
      split
      next heq => rw [heq] at hwork; exact ih _ ((h.goesOn hwork.toBooksGoOn).goesOn (.executeHead _ _))
      next heq => rw [heq] at hwork; exact ih _ ((Chosen.choice _).credits (h.goesOn hwork.toBooksGoOn))

theorem CreditInv.settle (h : CreditInv s) (call : Bool) : CreditInv (s.settle call) := h.settleAll _ call

end

end Sys2Proof.Machine
end

section
/-! SUPPORT. The end of an exchange and every other change keep the credits accounted (R69-R73, R146, R163, R171), and
leave no local request that may execute (R147). -/

-- Under this option Lean elaborates the proofs one after another: each thread of its own would reserve its own memory.
set_option deprecated.oldSectionVars true

namespace Sys2Proof.Machine

open Sys2Proof

section

variable {s : State} {x : Exchange}

/-! ### The end of an exchange (R69-R73) -/

theorem PortUnit.booksGoOn_probeEnded (u : PortUnit) (a : Byte) (state : StationState) :
    u.BooksGoOn (u.probeEnded a state) := by
  unfold PortUnit.probeEnded
  split
  · split
    · exact u.booksGoOn_endHead _
    · exact .refl u
  · exact .refl u

theorem BooksGoOn.attachesTakeEnd (s : State) (x : Exchange) : BooksGoOn s (s.attachesTakeEnd x) := by
  unfold State.attachesTakeEnd
  split
  · split
    · refine ⟨rfl, .refl _, fun p => ?_⟩
      rw [State.updPorts_port]
      exact PortUnit.booksGoOn_probeEnded _ _ _
    · exact .refl s
  · exact .refl s

/-- Until the port takes its end, the books go on as they do on an idle record. -/
theorem BooksGoOn.outcomeTaken (s : State) (x : Exchange) (o : Final) :
    BooksGoOn s.recordIdle ((s.outcomeTaken x o).arbiterTakesEnd x o) := by
  have htaken : BooksGoOn s.recordIdle (s.outcomeTaken x o) := by
    unfold State.outcomeTaken
    split
    · exact .refl _
    · have hreaches : OutcomeReaches s.recordIdle
          (((s.recordIdle.tableTakesEnd x o).watchTakesEnd x o).routerTakesEnd x o) :=
        ((OutcomeReaches.tableTakesEnd _ x o).trans (.watchTakesEnd _ x o)).trans (.routerTakesEnd _ x o)
      exact hreaches.workGoesOn.toBooksGoOn.trans (.attachesTakeEnd _ x)
  have harbiter : WorkGoesOn (s.outcomeTaken x o) ((s.outcomeTaken x o).arbiterTakesEnd x o) := by
    unfold State.arbiterTakesEnd
    split
    · exact .of_ports rfl rfl (.refl _)
    · exact .refl _
  exact htaken.trans harbiter.toBooksGoOn

theorem State.portTakesEnd_run (s : State) (x : Exchange) (o : Final) : (s.portTakesEnd x o).run = s.run := by
  unfold State.portTakesEnd
  split <;> rfl

/-- The end of the exchange in the record leaves no request in flight, and its port balanced. -/
theorem CreditInv.handEnd (h : CreditInv s) (hx : s.Holds x) (o : Final) : CreditInv (s.handEnd x o) := by
  obtain ⟨y, hy, hyx⟩ := hx
  have hbooks := BooksGoOn.outcomeTaken s x o
  rw [s.handEnd_eq]
  generalize (s.outcomeTaken x o).arbiterTakesEnd x o = t at hbooks
  have hflown : ∀ p, (t.port p).inFlight.isSome = true →
      x.origin = .port p ∧ ((s.port p).state = .closing → x.discard = true) := fun p hp => by
    obtain ⟨z, hz, horigin, hdiscard⟩ := h.flight p ((hbooks.port p).flight hp)
    cases hy.symm.trans hz
    refine ⟨hyx.origin.trans horigin, fun hclosing => ?_⟩
    by_contra hkeep
    cases (hdiscard hclosing).symm.trans (hyx.discard (Bool.eq_false_of_not_eq_true hkeep))
  have hended : ∀ p, (t.port p).BooksGoOn ((t.portTakesEnd x o).port p) := fun p => by
    rw [State.portTakesEnd_port]
    split
    · exact PortUnit.booksGoOn_takesEnd _ o fun hp hclosing => (hflown p hp).2 ((hbooks.port p).closing hclosing)
    · exact .refl _
  have hports : ∀ p, (s.port p).BooksGoOn ((t.portTakesEnd x o).port p) := fun p => (hbooks.port p).trans (hended p)
  refine creditInv_of_grounded (fun p => (hports p).balanced (h.balanced p)) (fun p => ?grounded)
    fun hstart p => (hports p).closed (h.unloaded ?start p)
  case grounded =>
    rw [State.portTakesEnd_port]
    split
    · exact PortUnit.takesEnd_inFlight _ x o
    next hother =>
      cases hp : (t.port p).inFlight with
      | none => rfl
      | some r => exact absurd (hflown p (by rw [hp]; rfl)).1 hother
  case start =>
    rw [State.portTakesEnd_run, hbooks.run] at hstart
    exact hstart

theorem CreditInv.startPaired (h : CreditInv s) (hx : s.exchange = none) (p : Port) : CreditInv (s.startPaired p) := by
  have hunpaired : CreditInv s.unpaired := h.goesOn (.of_ports rfl rfl (.refl _))
  rw [s.startPaired_eq]
  split
  · exact hunpaired
  next r rest hqueue => exact (Chosen.startHead (s := s.unpaired) hx hqueue).credits hunpaired

theorem BooksGoOn.failPaired (s : State) (p : Port) (attempts : Nat) : BooksGoOn s (s.failPaired p attempts) := by
  have hunpaired : BooksGoOn s s.unpaired := .of_ports rfl rfl (.refl _)
  simp only [State.failPaired]
  split
  · exact hunpaired
  next r rest _ =>
    have hslot : BooksGoOn s.unpaired (if r.isCwrite then s.unpaired.emptyWatch p r.slot else s.unpaired) := by
      split <;> exact .of_ports rfl rfl (.refl _)
    exact (hunpaired.trans hslot).trans (.updPort (PortUnit.booksGoOn_endHead _ _))

theorem BooksGoOn.originExecutes (s : State) (x : Exchange) : BooksGoOn s (s.originExecutes x) := by
  unfold State.originExecutes
  split
  · split
    · exact .executeHead s _
    · exact .refl s
  · exact .refl s

/-! ### Both properties together -/

/-- From s to t the credits stay accounted, and no local request is left ready. -/
abbrev Orderly (s t : State) : Prop := (CreditInv s → CreditInv t) ∧ (s.Quiet → t.Quiet)

theorem Orderly.credits {t : State} (h : Orderly s t) : CreditInv s → CreditInv t := h.1

theorem Orderly.quiet {t : State} (h : Orderly s t) : s.Quiet → t.Quiet := h.2

theorem Orderly.refl (s : State) : Orderly s s := ⟨id, id⟩

theorem Orderly.trans {s t u : State} (h : Orderly s t) (h' : Orderly t u) : Orderly s u :=
  ⟨fun hs => h'.credits (h.credits hs), fun hs => h'.quiet (h.quiet hs)⟩

theorem WorkGoesOn.orderly {t : State} (h : WorkGoesOn s t) : Orderly s t := ⟨fun hs => hs.goesOn h.toBooksGoOn, h.quiet⟩

theorem Orderly.of_ports {t : State} (hports : t.ports = s.ports) (hrun : t.run = s.run)
    (hrecord : RecordGoesOn s.exchange t.exchange) : Orderly s t := (WorkGoesOn.of_ports hports hrun hrecord).orderly

/-- A change that takes up all that it leaves ready is orderly if it keeps the credits accounted. -/
theorem Orderly.settle {t : State} (h : CreditInv s → CreditInv t) (call : Bool) : Orderly s (t.settle call) :=
  ⟨fun hs => (h hs).settle call, fun _ => t.settle_quiet call⟩

theorem Orderly.ite {a b : State} {c : Prop} [Decidable c] (ha : c → Orderly s a) (hb : Orderly s b) :
    Orderly s (if c then a else b) := by
  split
  next hc => exact ha hc
  · exact hb

/-- The end of the exchange in the record, and all that it leaves ready (R69). -/
theorem Orderly.endExchange (hx : s.Holds x) (o : Final) : Orderly s (s.endExchange x o) := by
  have hidle := s.handEnd_idle x o
  simp only [State.endExchange]
  split
  · split
    · exact .settle (fun h => (h.handEnd hx o).startPaired hidle _) false
    · exact .settle (fun h => (Chosen.choice _).credits ((h.handEnd hx o).goesOn (.failPaired _ _ _))) false
  · exact .settle (fun h => (h.handEnd hx o).goesOn (.originExecutes _ x)) true

/-! ### Attempts and replies (R54-R68) -/

theorem Orderly.setRecord (hx : s.Holds x) : Orderly s { s with exchange := some x } :=
  (WorkGoesOn.setRecord hx).orderly

theorem Orderly.retry (hx : s.Holds x) : Orderly s (s.retry x) := by
  have hrecord : WorkGoesOn s { s with exchange := some { x with attempt := x.attempt + 1, phase := .sending } } :=
    .setRecord (hx.goesOn .attempting)
  have hline : WorkGoesOn { s with exchange := some { x with attempt := x.attempt + 1, phase := .sending } }
      (s.retry x) := .of_ports rfl rfl (.refl _)
  exact (hrecord.trans hline).orderly

theorem Orderly.await (hx : s.Holds x) : Orderly s (s.await x) := .setRecord (hx.goesOn .attempting)

theorem Orderly.failAttempt (hx : s.Holds x) (f : Failure) : Orderly s (s.failAttempt x f) := by
  simp only [State.failAttempt]
  split
  · exact .ite (fun _ => .retry (hx.goesOn .attempting)) (.setRecord (hx.goesOn .attempting))
  · exact .endExchange (hx.goesOn .attempting) _

theorem Orderly.sendDone (s : State) : Orderly s s.sendDone := by
  unfold State.sendDone
  split
  · exact .refl s
  next x hx =>
    have hholds := State.holds_of_exchange hx
    split
    · split
      · exact .ite (fun _ => .endExchange hholds _) (.setRecord (hholds.goesOn .attempting))
      · exact .await hholds
    · exact .refl s

theorem Orderly.frameBegun (s : State) : Orderly s s.frameBegun := by
  unfold State.frameBegun
  split
  · exact .refl s
  next x hx =>
    exact .ite (fun _ => .setRecord ((State.holds_of_exchange hx).goesOn .attempting)) (.refl s)

theorem Orderly.replyExpired (s : State) : Orderly s s.replyExpired := by
  unfold State.replyExpired
  split
  · exact .refl s
  next x hx => exact .ite (fun _ => .failAttempt (State.holds_of_exchange hx) _) (.refl s)

theorem Orderly.holdoffExpired (s : State) : Orderly s s.holdoffExpired := by
  unfold State.holdoffExpired
  split
  · exact .refl s
  next x hx => exact .ite (fun _ => .endExchange (State.holds_of_exchange hx) _) (.refl s)

theorem Orderly.takeAnswer (hx : s.Holds x) (index : Nat) (values : List Half) (more : Bool) :
    Orderly s (s.takeAnswer x index values more) := by
  by_cases hbad : x.BadFragment index values more
  · rw [s.takeAnswer_bad x index values more hbad]
    exact .failAttempt hx _
  · rw [s.takeAnswer_good x index values more hbad]
    exact .ite (fun _ => .await (hx.goesOn .attempting)) (.endExchange hx _)

theorem Orderly.takeRefuse (hx : s.Holds x) (reason : RefuseReason) : Orderly s (s.takeRefuse x reason) := by
  by_cases hbusy : reason = .busy
  · subst hbusy
    exact .failAttempt hx _
  · rw [s.takeRefuse_of_ne_busy x reason hbusy]
    exact .endExchange hx _

theorem Orderly.takeReply (hx : s.Holds x) (reply : Reply) : Orderly s (s.takeReply x reply) := by
  rcases s.takeReply_cases x reply with heq | ⟨reason, heq⟩ | ⟨index, values, more, heq⟩ | ⟨o, heq⟩ <;> rw [heq]
  · exact .failAttempt hx .protocol
  · exact .takeRefuse hx reason
  · exact .takeAnswer hx index values more
  · exact .endExchange hx o

theorem Orderly.takeValid (hx : s.Holds x) (source : Byte) (reply : Reply) : Orderly s (s.takeValid x source reply) := by
  simp only [State.takeValid]
  split
  · exact .failAttempt hx _
  · split
    next k _ _ =>
      refine (OutcomeReaches.heard s k).workGoesOn.orderly.trans (.takeReply ?_ reply)
      rw [State.Holds, State.heard_exchange]
      exact hx
    · exact .takeReply hx reply

theorem Orderly.frameEnded (s : State) (report : FrameReport) : Orderly s (s.frameEnded report) := by
  by_cases hphase : ∀ x, s.exchange = some x → x.phase ≠ .receiving
  · rw [s.frameEnded_elsewhere report hphase]
    exact .refl s
  · push Not at hphase
    obtain ⟨x, hx, hphase⟩ := hphase
    have hholds := State.holds_of_exchange hx
    rw [s.frameEnded_receiving x report hx hphase]
    cases report with
    | garbled cause => exact .failAttempt hholds _
    | ignored => exact .await hholds
    | malformed source => exact .failAttempt hholds _
    | valid source reply => exact .takeValid hholds source reply

/-! ### The field line (R1-R9) -/

theorem Orderly.setRx (s : State) (rx : Receiver) : Orderly s (s.setRx rx) := .of_ports rfl rfl (.refl _)

theorem Orderly.takeCharacter (s : State) (data : Byte) (fault : Bool) : Orderly s (s.takeCharacter data fault) := by
  have hbegun : Orderly s (if s.line.rx = .hunting then s.frameBegun else s) := .ite (fun _ => .frameBegun s) (.refl s)
  simp only [State.takeCharacter]
  split
  · exact hbegun.trans ((Orderly.setRx _ .discarding).trans (.frameEnded _ _))
  · exact hbegun.trans (.setRx _ _)

theorem Orderly.confirmFrame (s : State) : Orderly s s.confirmFrame := by
  unfold State.confirmFrame
  split
  · exact .refl s
  · exact .refl s
  · exact (Orderly.setRx s .hunting).trans (.frameEnded _ _)
  · exact (Orderly.setRx s .hunting).trans (.frameEnded _ _)
  · exact .setRx s .hunting

/-- A change of the line and of the exchange in place. -/
theorem Orderly.mapRecord (line : LineInterface) {f : Exchange → Exchange} (h : ∀ x : Exchange, x.GoesOn (f x)) :
    Orderly s { s with line := line, exchange := s.exchange.map f } :=
  (WorkGoesOn.of_ports (s := s) (t := { s with line := line, exchange := s.exchange.map f }) rfl rfl (.map _ h)).orderly

theorem Orderly.lapse (s : State) (n : Nat) : Orderly s (s.lapse n) := by
  have helapsed : Orderly s (s.elapse n) := .mapRecord _ fun _ => .attempting
  simp only [State.lapse]
  exact .ite (fun _ => helapsed.trans (.confirmFrame _)) helapsed

theorem Orderly.transmit (s : State) : Orderly s s.transmit := by
  unfold State.transmit
  split
  · exact .ite (fun _ => .of_ports rfl rfl (.refl _)) (.refl s)
  · exact .refl s

theorem Orderly.gapEnds (s : State) : Orderly s s.gapEnds := by
  unfold State.gapEnds
  split
  next x hx => exact .ite (fun _ => .retry (State.holds_of_exchange hx)) (.refl s)
  · exact .refl s

theorem Orderly.completeSend (s : State) : Orderly s s.completeSend := by
  have hrelease : WorkGoesOn s { s with line := s.line.release } := .of_ports rfl rfl (.refl _)
  exact hrelease.orderly.trans (.sendDone _)

theorem Orderly.bitTime (s : State) : Orderly s s.bitTime := by
  unfold State.bitTime
  split
  · split
    · exact .of_ports rfl rfl (.refl _)
    · exact .completeSend s
    · have hreply : Orderly s (if (s.lapse 1).replyLeft = some 0 then (s.lapse 1).replyExpired else s.lapse 1) :=
        (Orderly.lapse s 1).trans (.ite (fun _ => .replyExpired _) (.refl _))
      refine hreply.trans (Orderly.trans ?_ ((Orderly.gapEnds _).trans (.transmit _)))
      exact .ite (fun _ => .holdoffExpired _) (.refl _)
  · exact .refl s

end

end Sys2Proof.Machine
end

section
/-! SUPPORT. Submissions, the control operations, start-up and slow time keep the credits accounted and leave no local
request that may execute; with them every command does (R146, R147). -/

-- Under this option Lean elaborates the proofs one after another: each thread of its own would reserve its own memory.
set_option deprecated.oldSectionVars true

namespace Sys2Proof.Machine

open Sys2Proof

section

variable {s : State}

/-! ### Submission (R143, R145) -/

theorem BooksGoOn.commit (s : State) (p : Port) (r : Request) : BooksGoOn s (s.commit p r).1 := by
  simp only [State.commit]
  split
  · exact .refl s
  next hadmits =>
    split
    · exact BooksGoOn.updPort (f := fun u => { u with sticky := u.sticky.setRefused }) (.of_same rfl rfl rfl rfl rfl)
    next hcredit =>
      exact BooksGoOn.updPort (f := fun u => { u with queue := u.queue ++ [r], credits := u.credits - 1 })
        (PortUnit.booksGoOn_queueing r (Bool.eq_true_of_not_eq_false hadmits) hcredit)

theorem WorkGoesOn.voidWord (s : State) (p : Port) : WorkGoesOn s (s.voidWord p) := .ite (.send s p 0) (.refl s)

theorem Orderly.stage (s : State) (p : Port) (w : Word) : Orderly s (s.stage p w) := by
  simp only [State.stage]
  split
  · exact .refl s
  · split
    · have hemptied : BooksGoOn s (s.updPort p ({ · with staging := [] })) := .updPort (.of_same rfl rfl rfl rfl rfl)
      exact .settle (fun h => h.goesOn (hemptied.trans (.commit _ p _))) _
    · exact (WorkGoesOn.updPort (.of_same rfl rfl rfl rfl rfl) ⟨rfl, rfl, rfl⟩).orderly

theorem Orderly.submitWord (s : State) (p : Port) (w : Word) : Orderly s (s.submitWord p w) :=
  .ite (fun _ => (WorkGoesOn.send s p 0).orderly.trans (.stage _ p w)) (WorkGoesOn.voidWord s p).orderly

theorem Orderly.submitWords (s : State) (p : Port) (ws : List Word) : Orderly s (s.submitWords p ws) :=
  List.foldlRecOn (motive := Orderly s) ws _ (.refl s) fun t ht w _ => ht.trans (.submitWord t p w)

/-! ### Transactions (R164) -/

/-- A word of a TAKE takes nothing from the requests. -/
theorem PortUnit.sameTurn_takeCompletionWord (u : PortUnit) : u.SameTurn u.takeCompletionWord.1 := by
  unfold PortUnit.takeCompletionWord
  split
  · exact .refl u
  · split
    · exact ⟨rfl, rfl, rfl⟩
    · simp only
      split <;> exact ⟨rfl, rfl, rfl⟩

theorem PortUnit.takeReportWord_frame (u : PortUnit) : ∃ reports pos link,
    u.takeReportWord.1 = { u with reports := reports, reportPos := pos, link := link } := by
  unfold PortUnit.takeReportWord
  split
  · exact ⟨_, _, _, rfl⟩
  · split
    · exact ⟨_, _, _, rfl⟩
    · simp only
      split <;> exact ⟨_, _, _, rfl⟩

theorem Orderly.takeWord {p : Port} {c : Channel} {take : PortUnit → PortUnit × Word}
    (hbooks : (s.port p).BooksGoOn (take (s.port p)).1) (hturn : (s.port p).SameTurn (take (s.port p)).1) :
    Orderly s (s.takeWord p c take) := by
  have htaken : WorkGoesOn s (s.setPort p (take (s.port p)).1) :=
    WorkGoesOn.updPort (f := fun _ => (take (s.port p)).1) hbooks hturn
  simp only [State.takeWord]
  exact .ite (fun _ => (htaken.trans (.send _ p _)).orderly) (WorkGoesOn.voidWord s p).orderly

/-! ### Control operations (R167-R172) -/

/-- A CLOSE at all blocks but the table and the router: the credits return, and a request in flight is to be discarded
(R74, R170). -/
theorem CreditInv.portClosed (h : CreditInv s) (p : Port) : CreditInv (s.closed p) := by
  have hbalanced : ∀ q, ((s.closed p).port q).Balanced := fun q => by
    rw [State.closed_port]
    split
    · exact (h.balanced p).closes
    · exact h.balanced q
  refine ⟨fun q => (hbalanced q).accounted, fun q => (hbalanced q).closed, fun q => (hbalanced q).closing,
    fun q hq => ?flight, fun hstart q => ?unloaded⟩
  case flight =>
    have hflown : (s.port q).inFlight.isSome = true := by
      rw [State.closed_port] at hq
      split at hq
      next hqp => rw [hqp]; exact hq
      · exact hq
    obtain ⟨x, hx, horigin, hdiscard⟩ := h.flight q hflown
    have hclosedBy := x.goesOn_closedBy p
    refine ⟨x.closedBy p, by show s.exchange.map _ = _; rw [hx]; rfl, hclosedBy.origin.trans horigin, fun hclosing => ?_⟩
    rw [State.closed_port] at hclosing
    split at hclosing
    next hqp => rw [Exchange.closedBy, if_pos (hqp ▸ horigin)]
    · by_contra hkeep
      cases (hdiscard hclosing).symm.trans (hclosedBy.discard (Bool.eq_false_of_not_eq_true hkeep))
  case unloaded =>
    have hstate := h.unloaded hstart
    rw [State.closed_port]
    split
    · have hflight := ((h.balanced p).closed (hstate p)).2.1
      simp [PortUnit.closes, hflight]
    · exact hstate q

/-- The port that closes has nothing queued, and the others are as they were. -/
theorem State.Quiet.portClosed (h : s.Quiet) (p : Port) : (s.closed p).Quiet := by
  intro q
  have hport := s.closed_port p q
  by_cases hq : q = p
  · rw [if_pos hq] at hport
    exact State.localReady_of_empty _ q (by rw [hport]; rfl)
  · rw [if_neg hq] at hport
    exact (State.localReady_congr (s := s) (t := s.closed p) rfl hport).trans (h q)

theorem Orderly.closePort (s : State) (p : Port) : Orderly s (s.closePort p) := by
  have hleft : WorkGoesOn (s.closed p) ((s.closed p).leaveAll p) :=
    List.foldlRecOn (motive := WorkGoesOn (s.closed p)) _ _ (.refl _) fun t ht k _ => ht.trans (.leaveEntry t p k)
  have hrouting : WorkGoesOn ((s.closed p).leaveAll p) (((s.closed p).leaveAll p).setRouting p Routing.cleared) :=
    .of_ports rfl rfl (.refl _)
  rw [s.closePort_eq]
  exact Orderly.trans ⟨fun h => h.portClosed p, fun h => h.portClosed p⟩ (hleft.trans hrouting).orderly

/-- A CLOSED port opens, which only a part that runs lets it do (R142, R168). -/
theorem Orderly.openPort {p : Port} (hrun : s.run = .running) (hclosed : (s.port p).state = .closed) :
    Orderly s (s.updPort p PortUnit.opens) := by
  refine ⟨fun h => ?credits, fun h q => ?quiet⟩
  case credits =>
    have hflight := ((h.balanced p).closed hclosed).2.1
    have hport : ∀ q, (s.updPort p PortUnit.opens).port q = if q = p then (s.port p).opens else s.port q :=
      fun q => s.updPort_port p q _
    have hbalanced : ∀ q, ((s.updPort p PortUnit.opens).port q).Balanced := fun q => by
      rw [hport]
      split
      · exact (h.balanced p).opens hclosed
      · exact h.balanced q
    refine ⟨fun q => (hbalanced q).accounted, fun q => (hbalanced q).closed, fun q => (hbalanced q).closing,
      fun q hq => ?_, fun hstart => ?_⟩
    · rw [hport] at hq ⊢
      split at hq
      · rw [PortUnit.opens, hflight] at hq; cases hq
      next hother => rw [if_neg hother]; exact h.flight q hq
    · rw [State.updPort_run, hrun] at hstart
      exact hstart.elim nofun nofun
  case quiet =>
    have hturn : (s.port q).SameTurn ((s.updPort p PortUnit.opens).port q) := by
      rw [State.updPort_port]
      split
      next hq => rw [hq]; exact ⟨rfl, rfl, rfl⟩
      · exact .refl _
    exact (hturn.localReady rfl).trans (h q)

/-- A port goes from OPEN to DOZING or back (R169). -/
theorem Orderly.changeState {p : Port} (hclosed : (s.port p).state ≠ .closed) (state : PortState)
    (hopen : state = .closed ∨ state = .closing → False) : Orderly s (s.updPort p ({ · with state := state })) :=
  (WorkGoesOn.updPort (f := fun u => { u with state := state })
    ⟨fun h => absurd h hclosed, fun h => (hopen (.inr h)).elim, id,
      fun h => ⟨h.accounted, fun h => (hopen (.inl h)).elim, fun h => (hopen (.inr h)).elim⟩⟩ ⟨rfl, rfl, rfl⟩).orderly

theorem Orderly.takeControl {p : Port} {op : ControlOp} (hrun : s.run = .running) (flags : Byte) :
    Orderly s (s.takeControl p op flags) := by
  refine .ite (fun hallowed => ?_) (.refl s)
  have hstate : op.allowed (s.port p).state = true := hallowed
  cases op with
  | openPort => exact .openPort hrun (of_decide_eq_true hstate)
  | doze =>
    have hopened : (s.port p).state = .opened := of_decide_eq_true hstate
    exact .changeState (by simp [hopened]) .dozing nofun
  | wakeup =>
    have hdozing : (s.port p).state = .dozing := of_decide_eq_true hstate
    exact .changeState (by simp [hdozing]) .opened nofun
  | close => exact .closePort s p
  | clear | mask | force =>
    unfold State.control
    exact (WorkGoesOn.updPort (.of_same rfl rfl rfl rfl rfl) ⟨rfl, rfl, rfl⟩).orderly

theorem Orderly.takeControlWord (s : State) (p : Port) (w : Word) : Orderly s (s.takeControlWord p w) := by
  have hsend := (WorkGoesOn.send s p 0).orderly
  simp only [State.takeControlWord]
  split
  next hacts =>
    have hrun : s.run = .running := by
      simp only [State.acts, Bool.and_eq_true, Bool.or_eq_true, decide_eq_true_eq, reduceCtorEq, false_or] at hacts
      exact hacts.2.2
    split
    · exact hsend.trans (.takeControl (s := s.send p 0) hrun _)
    · exact hsend
  · exact (WorkGoesOn.voidWord s p).orderly

/-! ### Start-up (R181, R182, R190) -/

/-- A part that runs is past the load (R181). -/
theorem CreditInv.resumed (h : CreditInv s) : CreditInv s.resumed :=
  ⟨h.accounted, h.closed, h.closing, h.flight, fun hstart => hstart.elim nofun nofun⟩

/-- A port that is open at start has its 16 credits at the end of the load (R168, R181). -/
theorem PortUnit.Balanced.loadEnds {u : PortUnit} (h : u.Balanced) (hclosed : u.state = .closed) (opens : Bool)
    (result : LoadResult) : (u.loadEnds opens result).Balanced := by
  obtain ⟨hqueue, hflight, hrecords⟩ := h.closed hclosed
  cases opens with
  | true => exact ⟨by simp [PortUnit.loadEnds, hqueue, hflight, hrecords], nofun, nofun⟩
  | false => exact ⟨h.accounted, h.closed, h.closing⟩

theorem WorkGoesOn.preAttach (s : State) (kept : Byte × PortSet) : WorkGoesOn s (s.preAttach kept) := by
  unfold State.preAttach
  split
  · exact .of_ports rfl rfl (.refl _)
  · exact .refl s

theorem WorkGoesOn.preAttaches (kept : List (Byte × PortSet)) (s : State) :
    WorkGoesOn s (kept.foldl State.preAttach s) := by
  induction kept generalizing s with
  | nil => exact .refl s
  | cons first rest ih => exact (WorkGoesOn.preAttach s first).trans (ih _)

theorem CreditInv.applyLoad (h : CreditInv s) (hrun : s.run = .loading) (image : List Byte) (bus : List BusOp)
    (j : Judgement) : CreditInv (s.applyLoad image bus j) := by
  have hloaded : WorkGoesOn s { s with loader := Loader.finished image bus j } := .of_ports rfl rfl (.refl _)
  have hkept := hloaded.trans (.preAttaches j.kept _)
  simp only [State.applyLoad]
  generalize List.foldl State.preAttach { s with loader := Loader.finished image bus j } j.kept = t at hkept ⊢
  have ht := h.goesOn hkept.toBooksGoOn
  have hclosed := ht.unloaded (.inr (hkept.run.trans hrun))
  have hport : ∀ p, (t.updPorts fun p u => u.loadEnds (j.params.openAtStart.get p) j.result).port p
      = (t.port p).loadEnds (j.params.openAtStart.get p) j.result := fun p => t.updPorts_port _ p
  refine creditInv_of_grounded (fun p => ?_) (fun p => ?_) fun hstart => ?_
  · have hbalanced := (ht.balanced p).loadEnds (hclosed p) (j.params.openAtStart.get p) j.result
    rw [← hport] at hbalanced
    exact hbalanced
  · exact (congrArg PortUnit.inFlight (hport p)).trans ((ht.balanced p).closed (hclosed p)).2.1
  · exact hstart.elim nofun nofun

/-- A warm restart ends the request in flight with its credit, and closes a CLOSING port (R148, R180). -/
theorem PortUnit.booksGoOn_restart (u : PortUnit) : u.BooksGoOn u.restart :=
  u.booksGoOn_dropFlight.trans (.of_same rfl rfl rfl rfl rfl)

theorem PortUnit.restart_inFlight (u : PortUnit) : u.restart.inFlight = none := by
  show u.dropFlight.inFlight = none
  unfold PortUnit.dropFlight
  split
  · assumption
  · rfl

theorem Orderly.restart (s : State) : Orderly s s.restart := by
  refine ⟨fun h => ?_, fun _ _ => rfl⟩
  have hport : ∀ p, s.restart.port p = (s.port p).restart := fun p => Quad.get_map _ _ _
  refine creditInv_of_grounded (fun p => ?_) (fun p => ?_) fun hstart => ?_
  · rw [hport]
    exact (PortUnit.booksGoOn_restart _).balanced (h.balanced p)
  · rw [hport]
    exact PortUnit.restart_inFlight _
  · exact hstart.elim nofun nofun

theorem execPowerOnReset_orderly (t : State) (h : execPowerOnReset s = .next t) : Orderly s t := by
  cases h
  have hport : ∀ p, (s.ports.map fun u : PortUnit => { PortUnit.reset with link := u.link.resetting }).get p
      = { PortUnit.reset with link := (s.port p).link.resetting } := fun p => Quad.get_map _ _ _
  refine ⟨fun _ => creditInv_of_grounded (fun p => ?_) (fun p => ?_) fun _ p => ?_, fun _ _ => rfl⟩
  · show PortUnit.Balanced (Quad.get _ p)
    rw [hport]
    exact ⟨rfl, fun _ => ⟨rfl, rfl, rfl⟩, fun _ => ⟨rfl, rfl⟩⟩
  · exact congrArg PortUnit.inFlight (hport p)
  · exact congrArg PortUnit.state (hport p)

/-! ### Slow time (R35, R95, R110) -/

theorem BooksGoOn.appendReprobe (s : State) (k : Nat) : BooksGoOn s (s.appendReprobe k) := by
  unfold State.appendReprobe
  split
  · exact .refl s
  · split
    · exact .of_ports rfl rfl (.refl _)
    · exact .refl s

theorem Orderly.pollEvent (s : State) (e : PollEvent) : Orderly s (s.pollEvent e) := by
  cases e with
  | reprobe k => exact .settle (fun h => h.goesOn (.appendReprobe s k)) true
  | cycle =>
    refine .settle (fun h => h.goesOn ?_) true
    exact .of_ports rfl rfl (.refl _)

theorem Orderly.pollEvents (n : Nat) (events : List PollEvent) (s : State) :
    Orderly s (State.pollEvents n events s) := by
  induction n generalizing s events with
  | zero => exact .refl s
  | succ n ih =>
    have hraced : WorkGoesOn s { s with races := s.races + 1 } := .of_ports rfl rfl (.refl _)
    unfold State.pollEvents
    split
    · exact .refl s
    · exact .pollEvent s _
    · exact hraced.orderly.trans ((Orderly.pollEvent _ _).trans (ih _ _))

/-- The three owners of a poll tick touch of the ports the sticky flags only (R35, R95, R96, R110). -/
theorem WorkGoesOn.ticked (s : State) : WorkGoesOn s s.ticked := by
  have hrecord : s.ticked.exchange = s.exchange := (congrArg State.exchange s.ticked_rest :)
  refine ⟨⟨(congrArg State.run s.ticked_rest :), by rw [hrecord]; exact .refl _, fun p => ?_⟩, fun p => ?_⟩ <;>
    rw [s.ticked_port]
  · exact .of_same rfl rfl rfl rfl rfl
  · exact ⟨rfl, rfl, rfl⟩

theorem Orderly.pollTick (s : State) : Orderly s s.pollTick := by
  rw [s.pollTick_eq]
  exact (WorkGoesOn.ticked s).orderly.trans (.pollEvents _ _ _)

theorem WorkGoesOn.expireWatch (s : State) (p : Port) (k : WatchNo) : WorkGoesOn s (s.expireWatch p k) := by
  have haged := OutcomeReaches.setWatch s p k (s.watch p k).age
  simp only [State.expireWatch]
  exact .ite (.ite (haged.trans (.notice _ _ _)).workGoesOn haged.workGoesOn) (.refl s)

/-! ### The commands -/

/-- The next state, where the outcome is one, is orderly. -/
def KeepsOrder (s : State) (o : Host.Outcome State Fault Refusal) : Prop := ∀ t, o = .next t → Orderly s t

theorem Orderly.next {t : State} (h : Orderly s t) : KeepsOrder s (.next t) := by
  intro u hu
  cases hu
  exact h

theorem KeepsOrder.stays (s : State) : KeepsOrder s (.next s) := (Orderly.refl s).next

theorem KeepsOrder.ite {c : Prop} [Decidable c] {a b : Host.Outcome State Fault Refusal} (ha : c → KeepsOrder s a)
    (hb : KeepsOrder s b) : KeepsOrder s (if c then a else b) := by
  split
  next hc => exact ha hc
  · exact hb

/-- A change of one port's transaction, staging and positions. -/
theorem Orderly.updPort_next {p : Port} {f : PortUnit → PortUnit} (h : (s.port p).BooksGoOn (f (s.port p)))
    (hturn : (s.port p).SameTurn (f (s.port p))) : KeepsOrder s (.next (s.updPort p f)) :=
  (WorkGoesOn.updPort h hturn).orderly.next

theorem execReprobeDue_keepsOrder (s : State) (slot : Fin 32) : KeepsOrder s (execReprobeDue slot s) := by
  unfold execReprobeDue
  split
  next e _ =>
    have hset : BooksGoOn s (s.setEntry slot.val (some { e with countdown := 0 })) := .of_ports rfl rfl (.refl _)
    exact .ite (fun _ => (Orderly.settle (fun h => h.goesOn (hset.trans (.appendReprobe _ _))) true).next) (.stays s)
  · exact .stays s

theorem execCharacterReceived_keepsOrder (s : State) (data : Byte) (parity stop : Bool) :
    KeepsOrder s (execCharacterReceived data parity stop s) := by
  have hcharacter : Orderly s (s.duringCharacter stop) := .mapRecord _ fun _ => .attempting
  have hlow : WorkGoesOn s { s with line := { s.line with low := s.line.low || !stop } } := .of_ports rfl rfl (.refl _)
  exact .ite (fun _ => hlow.orderly.next) (.ite (fun _ => .stays s) (hcharacter.trans (.takeCharacter _ _ _)).next)

/-- Each command keeps the credits accounted and leaves no local request ready. -/
theorem exec_keepsOrder (s : State) (c : Instr) : KeepsOrder s (exec c s) := by
  cases c with
  | powerOnReset => exact fun t ht => execPowerOnReset_orderly t ht
  | loadStart =>
    refine .ite (fun hrun => Orderly.next ⟨fun h => ?_, fun _ _ => rfl⟩) (.stays s)
    exact ⟨h.accounted, h.closed, h.closing, h.flight, fun _ => h.unloaded (.inl hrun)⟩
  | loadEnd lines => exact .ite (fun hrun => (Orderly.settle (fun h => h.applyLoad hrun _ _ _) true).next) (.stays s)
  | warmRestart => exact .ite (fun _ => (Orderly.restart s).next) (.stays s)
  | warmRestartEnd => exact .ite (fun _ => (Orderly.settle (fun h => h.resumed) true).next) (.stays s)
  | channelOperation p op =>
    exact .ite (fun _ => Orderly.updPort_next (.of_same rfl rfl rfl rfl rfl) ⟨rfl, rfl, rfl⟩) (.stays s)
  | transactionBegin p =>
    exact .ite (fun _ => .stays s) (Orderly.updPort_next (.of_same rfl rfl rfl rfl rfl) ⟨rfl, rfl, rfl⟩)
  | transactionEnd p => exact Orderly.updPort_next (.of_same rfl rfl rfl rfl rfl) ⟨rfl, rfl, rfl⟩
  | submitWord p w => exact (Orderly.submitWord s p w).next
  | takeCompletion p =>
    exact (Orderly.takeWord (PortUnit.booksGoOn_takeCompletionWord _) (PortUnit.sameTurn_takeCompletionWord _)).next
  | takeReport p =>
    obtain ⟨reports, pos, link, htaken⟩ := (s.port p).takeReportWord_frame
    exact (Orderly.takeWord (by rw [htaken]; exact .of_same rfl rfl rfl rfl rfl)
      (by rw [htaken]; exact ⟨rfl, rfl, rfl⟩)).next
  | statusRead p full =>
    refine .ite (fun _ => Orderly.next ?_) (.stays s)
    exact ((WorkGoesOn.send s p _).trans (.updPort (.of_same rfl rfl rfl rfl rfl) ⟨rfl, rfl, rfl⟩)).orderly
  | openPort p | doze p | wakeup p | close p | clear p flags | mask p flags | force p flags
  | invalidControlOperation p w => exact (Orderly.takeControlWord s p _).next
  | read p | write p | cwrite p | attach p | detach p | release p | filterMode p | filterListAdd p
  | filterListRemove p | filterHashSet p | filterHashClear p | filterClearAll p | wakeset p | queryStation p
  | queryChanges p | queryWatches p | queryLine p | mark p | unassignedKind p => exact (Orderly.submitWords s p _).next
  | transmitStart =>
    show KeepsOrder s (execTransmitStart s)
    unfold execTransmitStart
    split
    · exact ((Orderly.lapse s _).trans (.transmit _)).next
    · exact .stays s
  | sendComplete =>
    show KeepsOrder s (execSendComplete s)
    unfold execSendComplete
    split
    · exact (Orderly.completeSend s).next
    · exact .stays s
  | characterReceived data parity stop => exact execCharacterReceived_keepsOrder s data parity stop
  | frameConfirmation => exact .ite (fun _ => (Orderly.lapse s _).next) (.stays s)
  | replyTimerExpiry =>
    show KeepsOrder s (execReplyTimerExpiry s)
    unfold execReplyTimerExpiry
    split
    · exact ((Orderly.lapse s _).trans (.replyExpired _)).next
    · exact .stays s
  | retryGapEnd => exact .ite (fun _ => ((Orderly.lapse s _).trans (.gapEnds _)).next) (.stays s)
  | holdoffExpiry =>
    show KeepsOrder s (execHoldoffExpiry s)
    unfold execHoldoffExpiry
    split
    · exact ((Orderly.lapse s _).trans (.holdoffExpired _)).next
    · exact .stays s
  | tick =>
    show KeepsOrder s (execTick s)
    unfold execTick
    split
    · exact .stays s
    · exact .ite (fun _ => (Orderly.pollTick s).next) (.next (.of_ports rfl rfl (.refl _)))
  | pollTick =>
    show KeepsOrder s (execPollTick s)
    unfold execPollTick
    split
    · exact .stays s
    · exact (Orderly.pollTick s).next
  | reprobeDue slot => exact execReprobeDue_keepsOrder s slot
  | watchExpired p k => exact .ite (fun _ => (WorkGoesOn.expireWatch s p k).orderly.next) (.stays s)
  | lineReturnsHigh => exact Orderly.next (.of_ports rfl rfl (.refl _))

theorem step_keepsOrder (s : State) : KeepsOrder s (step s) := by
  unfold step
  split
  · exact (Orderly.bitTime s).next
  next c rest _ =>
    have hpopped : WorkGoesOn s { s with pending := rest } := .of_ports rfl rfl (.refl _)
    exact fun t ht => hpopped.orderly.trans (exec_keepsOrder _ c t ht)

end

end Sys2Proof.Machine
end

section
/-! CLAIM. The accounting of the credits, and the local requests that execute at once. -/

-- Under this option Lean elaborates the proofs one after another: each thread of its own would reserve its own memory.
set_option deprecated.oldSectionVars true

open Sys2Proof Sys2Proof.Machine

/-- Settles O54: each change either lets the books go on, port by port, or moves a request between its queue, its flight
and its record on an idle record. -/
theorem creditsStayAccounted : Obligations.CreditsStayAccounted :=
  fun s t h hstep => (step_keepsOrder s t hstep).credits h

/-- Settles O59: a change that could make a local request ready takes up all that stands ready, and the fuel of that
exceeds the load of the queues; every other change leaves the turn of each port as it is. -/
theorem noLocalRequestIsLeftReady : Obligations.NoLocalRequestIsLeftReady :=
  fun s t h hstep => (step_keepsOrder s t hstep).quiet h

end

section
/-! SUPPORT. The transactions of a port (R142-R145, R164): the words of a void transaction, the staging of a record, its
commit, and the words of a TAKE. -/

-- Under this option Lean elaborates the proofs one after another: each thread of its own would reserve its own memory.
set_option deprecated.oldSectionVars true

namespace Sys2Proof.Machine

open Sys2Proof

section

variable {s : State} {p : Port}

/-! ### Words sent -/

theorem State.send_send (s : State) (p : Port) (w v : Word) : (s.send p w).send p v = s.send p v :=
  s.updPort_updPort p _ _

theorem State.send_port_same (s : State) (p : Port) (w : Word) :
    (s.send p w).port p = { s.port p with link := { (s.port p).link with sent := some w } } := s.updPort_port_same p _

/-! ### Void transactions (R142) -/

/-- A void transaction acts on no channel that has a meaning. -/
theorem State.acts_of_void (h : s.void p = true) {c : Channel} (hc : c ≠ .unassigned) : s.acts p c = false := by
  unfold State.void State.acts at *
  cases hchannel : (s.port p).link.channel with
  | none => simp [hchannel] at h
  | some d =>
    by_cases hd : d = c
    · subst hd
      cases d with
      | status | unassigned => simp [hchannel] at h hc
      | submit | takeCompletion | takeReport | control =>
        simp only [hchannel, Bool.and_eq_true, Bool.or_eq_true, decide_eq_true_eq] at h
        rcases h.2 with htainted | hrun
        · simp [htainted]
        · simp [hrun]
    · simp [hchannel, hd]

theorem State.voidWord_of_void (h : s.void p = true) : s.voidWord p = s.send p 0 := if_pos h

theorem State.send_void (s : State) (p : Port) (w : Word) : (s.send p w).void p = s.void p := by
  unfold State.void
  rw [s.send_port_link p w, s.send_run p w]

theorem State.submitWord_of_void (h : s.void p = true) (w : Word) : s.submitWord p w = s.send p 0 := by
  rw [s.submitWord_void p w (State.acts_of_void h nofun), State.voidWord_of_void h]

/-- The words of a record in a void transaction are answered with 0 and leave no more than that. -/
theorem State.submitWords_of_void (h : s.void p = true) {words : List Word} (hwords : words ≠ []) :
    s.submitWords p words = s.send p 0 := by
  have hmore : ∀ more : List Word, (s.send p 0).submitWords p more = s.send p 0 := fun more => by
    induction more with
    | nil => rfl
    | cons w more ih =>
      show ((s.send p 0).submitWord p w).submitWords p more = _
      rw [State.submitWord_of_void ((s.send_void p 0).trans h), State.send_send]
      exact ih
  cases words with
  | nil => exact absurd rfl hwords
  | cons w more =>
    show (s.submitWord p w).submitWords p more = _
    rw [State.submitWord_of_void h]
    exact hmore more

/-- A request row carries at least its header. -/
theorem Instr.record_ne_nil {i : Instr} {words : List Word} (h : i.record = some (p, words)) : words ≠ [] := by
  cases i with
  | read | write | cwrite | attach | detach | release | filterMode | filterListAdd | filterListRemove | filterHashSet
  | filterHashClear | filterClearAll | wakeset | queryStation | queryChanges | queryWatches | queryLine | mark
  | unassignedKind => cases h; exact List.cons_ne_nil _ _
  | powerOnReset | loadStart | loadEnd | warmRestart | warmRestartEnd | channelOperation | transactionEnd | submitWord
  | takeCompletion | takeReport | statusRead | openPort | doze | wakeup | close | clear | mask | force
  | invalidControlOperation | transmitStart | sendComplete | characterReceived | frameConfirmation | replyTimerExpiry
  | retryGapEnd | holdoffExpiry | tick | pollTick | reprobeDue | watchExpired | transactionBegin | lineReturnsHigh =>
    cases h

theorem State.takeWord_of_void (h : s.void p = true) {c : Channel} (hc : c ≠ .unassigned)
    (take : PortUnit → PortUnit × Word) : s.takeWord p c take = s.send p 0 := by
  simp [State.takeWord, State.acts_of_void h hc, State.voidWord_of_void h]

theorem State.takeControlWord_of_void (h : s.void p = true) (w : Word) : s.takeControlWord p w = s.send p 0 := by
  simp [State.takeControlWord, State.acts_of_void h (c := .control) nofun, State.voidWord_of_void h]

/-! ### Staging (R143, R144) -/

/-- The state of a port whose staging buffer holds `words`. -/
def State.staging (s : State) (p : Port) (words : List Word) : State :=
  s.updPort p fun u => { u with staging := words }

theorem State.stage_incomplete (s : State) {p : Port} {w header : Word} {body : List Word}
    (hwords : (s.port p).staging ++ [w] = header :: body) (hlength : body.length + 1 ≠ takenLength header) :
    s.stage p w = s.staging p (header :: body) := by
  simp only [State.stage, hwords, List.length_cons, hlength, if_false]
  rfl

theorem State.stage_complete (s : State) {p : Port} {w header : Word} {body : List Word}
    (hwords : (s.port p).staging ++ [w] = header :: body) (hlength : body.length + 1 = takenLength header) :
    s.stage p w = ((s.staging p []).commit p ⟨header, body⟩).1.settle ((s.staging p []).commit p ⟨header, body⟩).2 := by
  simp only [State.stage, hwords, List.length_cons, hlength, if_true]
  rfl

theorem WorkGoesOn.staging (s : State) (p : Port) (words : List Word) : WorkGoesOn s (s.staging p words) :=
  .updPort (.of_same rfl rfl rfl rfl rfl) ⟨rfl, rfl, rfl⟩

/-- The record length, as the header's last byte gives it (R144). -/
theorem takenLength_eq (header : Word) : takenLength header
    = if header.toNat % 256 < 2 ∨ 18 < header.toNat % 256 then 2 else header.toNat % 256 := by
  have hbyte : (header.extractLsb' 0 8).toNat = header.toNat % 256 := by
    rw [BitVec.extractLsb'_toNat, Nat.shiftRight_zero]
  simp only [takenLength, badLengthByte, hbyte, Bool.or_eq_true, decide_eq_true_eq]

/-! ### The commit (R145, R146) -/

theorem PortState.admits_eq_false {state : PortState} (h : state = .closed ∨ state = .closing) :
    state.admits = false := by
  rcases h with rfl | rfl <;> rfl

theorem PortState.admits_eq_true {state : PortState} (h : state = .opened ∨ state = .dozing) : state.admits = true := by
  rcases h with rfl | rfl <;> rfl

theorem State.commit_dropped (r : Request) (h : (s.port p).state.admits = false) : s.commit p r = (s, false) := by
  simp [State.commit, h]

theorem State.commit_refused (r : Request) (h : (s.port p).state.admits = true) (hcredit : (s.port p).credits = 0) :
    s.commit p r = (s.updPort p fun u => { u with sticky := u.sticky.setRefused }, false) := by
  simp only [State.commit, h, Bool.true_eq_false, if_false, if_pos hcredit]
  rfl

theorem State.commit_queued (r : Request) (h : (s.port p).state.admits = true) (hcredit : (s.port p).credits ≠ 0) :
    s.commit p r = (s.updPort p fun u => { u with queue := u.queue ++ [r], credits := u.credits - 1 },
      (s.port p).queue.isEmpty && r.isLine) := by
  simp only [State.commit, h, hcredit, Bool.true_eq_false, if_false]
  rfl

/-- A request that joins a queue behind another, or behind the request in flight, makes no local request ready (R147). -/
theorem State.Quiet.queued (h : s.Quiet) (r : Request)
    (hbehind : (s.port p).queue ≠ [] ∨ (s.port p).inFlight.isSome = true) :
    (s.updPort p fun u => { u with queue := u.queue ++ [r], credits := u.credits - 1 }).Quiet := by
  intro q
  by_cases hq : q = p
  · subst hq
    rcases hbehind with hqueue | hflight
    · obtain ⟨head, rest, hqueue⟩ := List.exists_cons_of_ne_nil hqueue
      have hready := h q
      simp only [State.localReady, hqueue] at hready
      simp only [State.localReady, State.updPort_port_same, hqueue, List.cons_append]
      exact hready
    · refine State.localReady_of_inFlight _ q ?_
      rw [State.updPort_port_same]
      exact hflight
  · refine (State.localReady_congr (s := s) ?_ (s.updPort_port_ne hq _)).trans (h q)
    rfl

/-! ### The TAKE channels (R164) -/

/-- A word of a TAKE that acts: the port as the word leaves it, the word sent. -/
theorem State.takeWord_acts {c : Channel} (h : s.acts p c = true) {take : PortUnit → PortUnit × Word} {u : PortUnit}
    {w : Word} (htake : take (s.port p) = (u, w)) :
    s.takeWord p c take = s.setPort p { u with link := { u.link with sent := some w } } := by
  simp only [State.takeWord, h, if_true, htake, State.send, State.updPort, State.setPort_port_same]
  simp only [State.setPort, Quad.set_set]

theorem Link.finish_of_finished {l : Link} (h : l.finished = true) : l.finish = l := by
  unfold Link.finish
  rw [← h]

section

variable {u : PortUnit}

theorem PortUnit.takeCompletionWord_none (h : u.link.finished = true ∨ u.completions = []) :
    u.takeCompletionWord = ({ u with link := u.link.finish }, 0) := by
  unfold PortUnit.takeCompletionWord
  split
  next hfinished => rw [Link.finish_of_finished hfinished]
  next hfinished => rw [h.resolve_left hfinished]

theorem PortUnit.takeCompletionWord_next {c : Completion} {rest : List Completion} (hfinished : u.link.finished = false)
    (hrecords : u.completions = c :: rest) (hpos : u.completionPos + 1 < c.words.length) :
    u.takeCompletionWord = ({ u with completionPos := u.completionPos + 1 }, c.words.getD u.completionPos 0) := by
  simp [PortUnit.takeCompletionWord, hfinished, hrecords, hpos]

theorem PortUnit.takeCompletionWord_last {c : Completion} {rest : List Completion} (hfinished : u.link.finished = false)
    (hrecords : u.completions = c :: rest) (hpos : u.completionPos + 1 = c.words.length) :
    u.takeCompletionWord = ({ u with
      completions := rest, completionPos := 0, credits := u.credits + 1, link := u.link.finish },
      c.words.getD u.completionPos 0) := by
  simp [PortUnit.takeCompletionWord, hfinished, hrecords, hpos]

theorem PortUnit.takeReportWord_none (h : u.link.finished = true ∨ u.reports = []) :
    u.takeReportWord = ({ u with link := u.link.finish }, 0) := by
  unfold PortUnit.takeReportWord
  split
  next hfinished => rw [Link.finish_of_finished hfinished]
  next hfinished => rw [h.resolve_left hfinished]

theorem PortUnit.takeReportWord_next {r : ItemsRecord} {rest : List ItemsRecord} (hfinished : u.link.finished = false)
    (hrecords : u.reports = r :: rest) (hpos : u.reportPos + 1 < r.words.length) :
    u.takeReportWord = ({ u with reportPos := u.reportPos + 1 }, r.words.getD u.reportPos 0) := by
  simp [PortUnit.takeReportWord, hfinished, hrecords, hpos]

theorem PortUnit.takeReportWord_last {r : ItemsRecord} {rest : List ItemsRecord} (hfinished : u.link.finished = false)
    (hrecords : u.reports = r :: rest) (hpos : u.reportPos + 1 = r.words.length) :
    u.takeReportWord = ({ u with reports := rest, reportPos := 0, link := u.link.finish },
      r.words.getD u.reportPos 0) := by
  simp [PortUnit.takeReportWord, hfinished, hrecords, hpos]

end

end

end Sys2Proof.Machine
end

section
/-! CLAIM. Transactions, staging, the commit and the TAKE channels. -/

-- Under this option Lean elaborates the proofs one after another: each thread of its own would reserve its own memory.
set_option deprecated.oldSectionVars true

open Sys2Proof Sys2Proof.Machine

/-- Settles O10: the select and the channel byte are each taken once, and the end clears the transaction. -/
theorem transactionsSelectAndEnd : Obligations.TransactionsSelectAndEnd := by
  refine fun s p op => ⟨fun hidle => ?begins, fun hselected => ?again, fun hselected hfirst => ?channel,
    fun hother => ?later, rfl⟩
  case begins =>
    show execTransactionBegin p s = _
    rw [execTransactionBegin, if_neg (by simp [hidle])]
    rfl
  case again => exact if_pos hselected
  case channel =>
    show execChannelOperation p op s = _
    rw [execChannelOperation, if_pos (by simp [hselected, hfirst])]
    rfl
  case later =>
    refine if_neg ?_
    rcases hother with hidle | hlater
    · simp [hidle]
    · simp [Option.isSome_iff_ne_none.mp hlater]

/-- Settles O11: on a void transaction no channel acts, so that each row sends 0 and does nothing more. -/
theorem voidTransactionsChangeNothing : Obligations.VoidTransactionsChangeNothing := by
  refine fun s p h => ⟨fun w => ?submit, fun i words hrecord => ?record, fun i hi => ?row, fun flags w => ?control⟩
  case submit => exact congrArg Host.Outcome.next (State.submitWord_of_void h w)
  case record => rw [exec_of_record i s hrecord, State.submitWords_of_void h (Instr.record_ne_nil hrecord)]
  case row =>
    simp only [List.mem_cons, List.not_mem_nil, or_false] at hi
    rcases hi with rfl | rfl | rfl | rfl | rfl | rfl
    · exact congrArg Host.Outcome.next (State.takeWord_of_void h (by decide) _)
    · exact congrArg Host.Outcome.next (State.takeWord_of_void h (by decide) _)
    all_goals exact congrArg Host.Outcome.next (State.takeControlWord_of_void h _)
  case control =>
    refine ⟨?_, ?_, ?_, ?_⟩ <;> exact congrArg Host.Outcome.next (State.takeControlWord_of_void h _)

/-- Settles O12: the word joins the buffer; the one that completes a record on a CLOSED port leaves it empty, and the
record is dropped. -/
theorem submitWordStages : Obligations.SubmitWordStages := by
  intro s p w hacts
  have hsubmit : exec (.submitWord p w) s = .next ((s.send p 0).stage p w) := congrArg Host.Outcome.next (if_pos hacts)
  have hport := s.send_port_same p 0
  refine ⟨fun header body hwords hlength => ?incomplete, fun header body hwords hlength hclosed hquiet => ?complete,
    takenLength_eq⟩
  case incomplete =>
    rw [hsubmit, State.stage_incomplete _ (by rw [hport]; exact hwords) hlength]
    rfl
  case complete =>
    have hemptied : (s.send p 0).staging p [] = (s.send p 0).updPort p fun u => { u with staging := [] } := rfl
    have hwork := (WorkGoesOn.send s p 0).trans (.staging _ p [])
    have hstate : (((s.send p 0).staging p []).port p).state.admits = false := by
      rw [hemptied, State.updPort_port_same, hport]
      exact PortState.admits_eq_false (.inl hclosed)
    rw [hsubmit, State.stage_complete _ (by rw [hport]; exact hwords) hlength, State.commit_dropped _ hstate, ← hemptied]
    exact congrArg Host.Outcome.next (State.settle_of_quiet _ false (hwork.quiet hquiet) (.inl rfl))

/-- Settles O13: the record of every request row comes to one commit, which drops it, refuses it, or queues it. -/
theorem commitDropsRefusesOrQueues : Obligations.CommitDropsRefusesOrQueues := by
  intro s p i header body hrecord hwf hsubmitting hquiet
  have hwhole := Instr.wholeRecord_of_wf hrecord hwf
  have hexec := (exec_of_record i s hrecord).trans (congrArg Host.Outcome.next
    (s.submitWords_record p header body hsubmitting.acts hsubmitting.fresh (by simpa [wholeRecord] using hwhole)))
  have hport := s.send_port_same p 0
  have hsent := (WorkGoesOn.send s p 0).quiet hquiet
  refine ⟨fun hclosed => ?dropped, fun hopen hcredit => ?refused, fun hopen hcredit hbehind => ?queued⟩
  case dropped =>
    rw [hexec, State.commit_dropped _ (by rw [hport]; exact PortState.admits_eq_false hclosed)]
    exact congrArg Host.Outcome.next (State.settle_of_quiet _ false hsent (.inl rfl))
  case refused =>
    rw [hexec, State.commit_refused _ (by rw [hport]; exact PortState.admits_eq_true hopen)
      (by rw [hport]; exact hcredit)]
    have hwork : WorkGoesOn (s.send p 0) ((s.send p 0).updPort p fun u => { u with sticky := u.sticky.setRefused }) :=
      .updPort (.of_same rfl rfl rfl rfl rfl) ⟨rfl, rfl, rfl⟩
    exact congrArg Host.Outcome.next (State.settle_of_quiet _ false (hwork.quiet hsent) (.inl rfl))
  case queued =>
    rw [hexec, State.commit_queued _ (by rw [hport]; exact PortState.admits_eq_true hopen) (by rw [hport]; exact hcredit)]
    refine congrArg Host.Outcome.next (State.settle_of_quiet _ _ (hsent.queued ⟨header, body⟩ ?_) ?_)
    · rw [hport]
      exact hbehind.imp id And.left
    · rw [hport]
      rcases hbehind with hqueue | ⟨-, hx⟩
      · exact .inl (by simp [hqueue])
      · exact .inr hx

/-- Settles O14: a word of the head record, the last of which lets it go, or 0; the end of the transaction returns the
positions and leaves the records. -/
theorem takesSendTheHeadRecords : Obligations.TakesSendTheHeadRecords := by
  refine ⟨fun s p hacts => ⟨fun hnone => ?noCompletion, fun c rest hfinished hrecords =>
      ⟨fun hpos => ?nextWord, fun hpos => ?lastWord⟩⟩,
    fun s p hacts => ⟨fun hnone => ?noReport, fun r rest hfinished hrecords =>
      ⟨fun hpos => ?nextItem, fun hpos => ?lastItem⟩⟩, fun s p => ⟨_, rfl, ?ended⟩⟩
  case noCompletion =>
    exact congrArg Host.Outcome.next (State.takeWord_acts hacts (PortUnit.takeCompletionWord_none hnone))
  case nextWord =>
    exact congrArg Host.Outcome.next
      (State.takeWord_acts hacts (PortUnit.takeCompletionWord_next hfinished hrecords hpos))
  case lastWord =>
    exact congrArg Host.Outcome.next
      (State.takeWord_acts hacts (PortUnit.takeCompletionWord_last hfinished hrecords hpos))
  case noReport =>
    exact congrArg Host.Outcome.next (State.takeWord_acts hacts (PortUnit.takeReportWord_none hnone))
  case nextItem =>
    exact congrArg Host.Outcome.next (State.takeWord_acts hacts (PortUnit.takeReportWord_next hfinished hrecords hpos))
  case lastItem =>
    exact congrArg Host.Outcome.next (State.takeWord_acts hacts (PortUnit.takeReportWord_last hfinished hrecords hpos))
  case ended =>
    rw [State.updPort_port_same]
    exact ⟨rfl, rfl, rfl, rfl, rfl⟩

end

section
/-! SUPPORT. The start checks of a line request, each by its condition (R149, R193). -/

-- Under this option Lean elaborates the proofs one after another: each thread of its own would reserve its own memory.
set_option deprecated.oldSectionVars true

namespace Sys2Proof.Machine

open Sys2Proof

/-- The first start check, in the terms of R149 and R193. -/
theorem Request.lineBad_iff (r : Request) : r.lineBad = true ↔ r.badLength = true
    ∨ r.length ≠ (if r.kind = 1#4 then 2 else 2 + (r.count.toNat + 1) / 2) ∨ r.count.toNat < 1
    ∨ (if r.kind = 1#4 then 128 else 32) < r.count.toNat ∨ 65535 < r.first.toNat + r.count.toNat - 1
    ∨ (r.top = 0 ∧ r.kind ≠ 2#4) ∨ 200 < r.top.toNat ∨ (r.watch = true ∧ r.kind ≠ 1#4) := by
  have hread : r.isRead = decide (r.kind = 1#4) := rfl
  have hwrite : r.isWrite = decide (r.kind = 2#4) := rfl
  have hlast : r.first.toNat + r.count.toNat - 1 = r.lastPoint := rfl
  rw [hlast]
  simp only [Request.lineBad, Request.lineLength, hread, hwrite, Bool.or_eq_true, Bool.and_eq_true,
    Bool.not_eq_true', decide_eq_true_eq, decide_eq_false_iff_not, beq_iff_eq, or_assoc]
  rw [and_comm (a := ¬ r.kind = 2#4), and_comm (a := ¬ r.kind = 1#4)]

theorem Request.isBroadcast_iff (r : Request) : r.isBroadcast = true ↔ r.kind = 2#4 ∧ r.top = 0 := by
  simp only [Request.isBroadcast, Request.isWrite, Bool.and_eq_true, beq_iff_eq]
  rfl

section

variable {s : State} {p : Port} {r : Request}

theorem State.startCheck_bad (h : r.lineBad = true) : s.startCheck p r = some .badReq := if_pos h

variable (hgood : ¬ r.lineBad = true)

include hgood

theorem State.startCheck_broadcast (h : r.isBroadcast = true) : s.startCheck p r = none := by
  rw [State.startCheck, if_neg hgood, if_pos h]

variable (hstation : ¬ r.isBroadcast = true)

include hstation

/-- Past the first check, a request to a station is checked against the entry of its address. -/
theorem State.startCheck_station : s.startCheck p r = match s.entryOf r.top with
    | none => some .notAttached
    | some e =>
      if e.attached.get p = false then some .notAttached
      else if e.state = .offline then some .offline
      else if e.highest.toNat < r.lastPoint then some .range
      else none := by
  rw [State.startCheck]
  exact (if_neg hgood).trans (if_neg hstation)

end

end Sys2Proof.Machine
end

section
/-! CLAIM. The start checks. -/

-- Under this option Lean elaborates the proofs one after another: each thread of its own would reserve its own memory.
set_option deprecated.oldSectionVars true

open Sys2Proof Sys2Proof.Machine

/-- Settles O19: the first check is R149's by `Request.lineBad_iff`, and the others follow the entry of the address. -/
theorem startChecksComeInOrder : Obligations.StartChecksComeInOrder := by
  intro s p r _ last most called badReq
  have hbad : r.lineBad = true ↔ badReq := r.lineBad_iff
  refine ⟨fun h => State.startCheck_bad (hbad.mpr h),
    fun h hkind htop => State.startCheck_broadcast (mt hbad.mp h) (r.isBroadcast_iff.mpr ⟨hkind, htop⟩),
    fun h hother => ?_⟩
  have hcheck := State.startCheck_station (s := s) (p := p) (mt hbad.mp h) (mt r.isBroadcast_iff.mp hother)
  refine ⟨fun hnone => by rw [hcheck, hnone], fun e he => ?_⟩
  rw [hcheck, he]
  refine ⟨fun hout => if_pos hout, fun hin => ⟨fun hoffline => ?_, fun honline hrange => ?_, fun honline hrange => ?_⟩⟩
  · simp [hin, hoffline]
  · have hlast : e.highest.toNat < r.lastPoint := hrange
    simp [hin, honline, hlast]
  · have hlast : ¬ e.highest.toNat < r.lastPoint := Nat.not_lt.mpr hrange
    simp [hin, honline, hlast]

end

section
/-! SUPPORT. A local request that only completes (R147, R161): the fields of its record, its length, and what its
submission leaves. -/

-- Under this option Lean elaborates the proofs one after another: each thread of its own would reserve its own memory.
set_option deprecated.oldSectionVars true

namespace Sys2Proof.Machine

open Sys2Proof

/-! ### The record (R144, R161, R193) -/

section

variable {kind : BitVec 4} {h : Header} {body : List Word}

theorem Request.isLine_headerWord :
    Request.isLine ⟨headerWord kind h, body⟩ = (kind == reqRead || kind == reqWrite || kind == reqCwrite) := by
  rw [Request.isLine, Request.kind_headerWord]

/-- The completion of a request that is no line request shows its kind, its tag and its station (R161). -/
theorem completionOf_local (hlocal : Request.isLine ⟨headerWord kind h, body⟩ = false) (status : Status)
    (detail : BitVec 4) (words : List Word) : completionOf ⟨headerWord kind h, body⟩ status detail 0 words
      = localRecord kind h (Request.station ⟨headerWord kind h, body⟩) status detail words := by
  simp only [completionOf, localRecord, hlocal, Request.kind_headerWord, Request.tag_headerWord, Bool.false_eq_true,
    if_false]

/-- A request of two words is a whole record where its length byte says so (R144). -/
theorem wholeRecord_two (hlength : h.length = 2#8) (word : Word) :
    wholeRecord [headerWord kind h, word] = true := by
  rw [wholeRecord, takenLength_headerWord_two _ _ hlength]
  rfl

theorem Request.wrongLength_two_iff (hwhole : wholeRecord (headerWord kind h :: body) = true) :
    Request.wrongLength ⟨headerWord kind h, body⟩ 2 = true ↔ h.length ≠ 2#8 :=
  (Request.wrongLength_iff ⟨le_refl 2, by decide⟩ hwhole).trans (not_congr (BitVec.toNat_inj (y := 2#8)))

theorem Request.rightLength_two (hlength : h.length = 2#8) (word : Word) :
    ¬ Request.wrongLength ⟨headerWord kind h, [word]⟩ 2 = true := fun hwrong =>
  (Request.wrongLength_two_iff (wholeRecord_two hlength word)).mp hwrong hlength

end

@[simp] theorem Request.top_addressWord (header : Word) (a : Byte) (more : List Word) :
    Request.top ⟨header, addressWord a :: more⟩ = a := BitVec.extractLsb'_append_eq_left

@[simp] theorem Request.top_subWord (header : Word) (sub second : Byte) (low : Half) (more : List Word) :
    Request.top ⟨header, subWord sub second low :: more⟩ = sub :=
  BitVec.extractLsb'_append_eq_of_le (by decide) |>.trans BitVec.extractLsb'_append_eq_left

@[simp] theorem Request.second_subWord (header : Word) (sub second : Byte) (low : Half) (more : List Word) :
    Request.second ⟨header, subWord sub second low :: more⟩ = second :=
  BitVec.extractLsb'_append_eq_of_le (by decide) |>.trans BitVec.extractLsb'_append_eq_right

/-- ATTACH and DETACH name their station in word 1 (R161, R193). -/
theorem Request.station_addressWord {kind : BitVec 4} (hkind : kind = reqAttach ∨ kind = reqDetach) (h : Header)
    (a : Byte) (more : List Word) : Request.station ⟨headerWord kind h, addressWord a :: more⟩ = a := by
  rcases hkind with rfl | rfl <;> rw [Request.station, Request.kind_headerWord, Request.top_addressWord] <;>
    exact if_pos (by simp)

/-- RELEASE and MARK name no station (R161; log 14). -/
theorem Request.station_nameless {kind : BitVec 4} (hkind : kind = reqRelease ∨ kind = reqMark) (h : Header)
    (body : List Word) : Request.station ⟨headerWord kind h, body⟩ = 0 := by
  rcases hkind with rfl | rfl <;> simp only [Request.station, Request.isLine_headerWord, Request.kind_headerWord] <;> rfl

/-- Of the QUERY requests QUERY STATION names a station (R157, R161). -/
theorem Request.station_query (h : Header) (sub second : Byte) (low : Half) (more : List Word) :
    Request.station ⟨headerWord reqQuery h, subWord sub second low :: more⟩ = if sub = 1 then second else 0 := by
  simp only [Request.station, Request.isLine_headerWord, Request.kind_headerWord, Request.top_subWord,
    Request.second_subWord, beq_iff_eq]
  rfl

theorem stationAddress_false_iff (a : Byte) : stationAddress a = false ↔ a = 0 ∨ 200 < a.toNat := by
  have hzero : a = 0 ↔ a.toNat = 0 := BitVec.toNat_inj (y := 0#8).symm
  simp only [stationAddress, hzero, Bool.and_eq_false_iff, decide_eq_false_iff_not]
  omega

/-! ### The execution by kind (R147, R160) -/

theorem unassigned_ne {kind : BitVec 4} (hkind : unassigned kind = true) : kind ≠ reqRead ∧ kind ≠ reqWrite
    ∧ kind ≠ reqCwrite ∧ kind ≠ reqAttach ∧ kind ≠ reqDetach ∧ kind ≠ reqRelease ∧ kind ≠ reqFilter ∧ kind ≠ reqWakeset
    ∧ kind ≠ reqQuery ∧ kind ≠ reqMark := by
  simpa only [unassigned, Bool.not_eq_true', List.contains_eq_mem, List.mem_cons, List.not_mem_nil, or_false,
    decide_eq_false_iff_not, not_or] using hkind

section

variable (s : State) (p : Port) {r : Request}

theorem State.doLocal_attach (hkind : r.kind = reqAttach) : s.doLocal p r = s.doAttach p r := if_pos hkind

theorem State.doLocal_detach (hkind : r.kind = reqDetach) : s.doLocal p r = s.doDetach p r := by
  rw [State.doLocal, hkind]
  exact if_neg (by decide)

theorem State.doLocal_release (hkind : r.kind = reqRelease) : s.doLocal p r = s.doRelease p r := by
  simp only [State.doLocal, hkind]
  exact if_neg (by decide)

theorem State.doLocal_query (hkind : r.kind = reqQuery) : s.doLocal p r = s.doQuery p r := by
  simp only [State.doLocal, hkind]
  exact if_neg (by decide)

theorem State.doLocal_mark (hkind : r.kind = reqMark) : s.doLocal p r = s.doMark r := by
  simp only [State.doLocal, hkind]
  exact if_neg (by decide)

theorem State.doLocal_unassigned (hkind : unassigned r.kind = true) :
    s.doLocal p r = .completes s (completionOf r .badReq 0 0 []) := by
  simp [State.doLocal, unassigned_ne hkind]

end

/-! ### A request that changes nothing but its port (R147, R161) -/

/-- The request row completes on port p with the record c, and changes nothing but the ports. -/
def Answers (i : Instr) (s : State) (p : Port) (c : Completion) : Prop :=
  ∃ t, exec i s = .next t ∧ LocalDone s t p c ∧ OnlyPorts s t

section

variable {s : State} {p : Port} (hturn : s.LocalTurn p) {i : Instr} {kind : BitVec 4} {h : Header} {body : List Word}
  (hrecord : i.record = some (p, headerWord kind h :: body))
  (hwhole : wholeRecord (headerWord kind h :: body) = true)
  (hlocal : Request.isLine ⟨headerWord kind h, body⟩ = false) {station : Byte}
  (hstation : Request.station ⟨headerWord kind h, body⟩ = station)

include hturn hrecord hwhole hlocal hstation

/-- A request row whose request completes on its turn leaves what the execution left, and the record on its port. -/
theorem State.LocalTurn.completes {u : State} {status : Status} {detail : BitVec 4} {words : List Word}
    (hdo : (s.queueing p ⟨headerWord kind h, body⟩).doLocal p ⟨headerWord kind h, body⟩
      = .completes u (completionOf ⟨headerWord kind h, body⟩ status detail 0 words))
    (hrun : u.run = s.run) (hports : u.ports = (s.queueing p ⟨headerWord kind h, body⟩).ports) :
    exec i s = .next (u.updPort p (·.endHead (localRecord kind h station status detail words)))
      ∧ LocalDone s (u.updPort p (·.endHead (localRecord kind h station status detail words))) p
        (localRecord kind h station status detail words) := by
  rw [completionOf_local hlocal, hstation] at hdo
  refine ⟨?_, hturn.done hports _⟩
  rw [exec_of_record i s hrecord, hturn.submit hwhole hlocal hdo hrun hports]

/-- A local request whose execution leaves everything as it is completes in the change that submits it. -/
theorem State.LocalTurn.answers {status : Status} {detail : BitVec 4} {words : List Word}
    (hdo : (s.queueing p ⟨headerWord kind h, body⟩).doLocal p ⟨headerWord kind h, body⟩
      = .completes (s.queueing p ⟨headerWord kind h, body⟩)
        (completionOf ⟨headerWord kind h, body⟩ status detail 0 words)) :
    Answers i s p (localRecord kind h station status detail words) := by
  obtain ⟨hexec, hdone⟩ := hturn.completes hrecord hwhole hlocal hstation hdo rfl rfl
  exact ⟨_, hexec, hdone, rfl⟩

end

/-! ### MARK and the unassigned kinds (R159, R160) -/

theorem unassigned_isLine {kind : BitVec 4} (hkind : unassigned kind = true) (h : Header) (body : List Word) :
    Request.isLine ⟨headerWord kind h, body⟩ = false := by
  simp [Request.isLine_headerWord, unassigned_ne hkind]

theorem unassigned_station {kind : BitVec 4} (hkind : unassigned kind = true) (h : Header) (body : List Word) :
    Request.station ⟨headerWord kind h, body⟩ = 0 := by
  have hlocal := unassigned_isLine hkind h body
  simp [Request.station, hlocal, unassigned_ne hkind]

section

variable (s : State) {r : Request}

theorem State.doMark_wrongLength (hwrong : r.wrongLength 2 = true) :
    s.doMark r = .completes s (completionOf r .badReq 0 0 []) := if_pos hwrong

theorem State.doMark_ok (hright : ¬ r.wrongLength 2 = true) : s.doMark r = .completes s (completionOf r .ok 0 0 []) :=
  if_neg hright

end

end Sys2Proof.Machine
end

section
/-! CLAIM. MARK and the records of unassigned kinds. -/

-- Under this option Lean elaborates the proofs one after another: each thread of its own would reserve its own memory.
set_option deprecated.oldSectionVars true

open Sys2Proof Sys2Proof.Machine

/-- Settles O34: neither execution does more than complete. -/
theorem markAndUnassignedKindComplete : Obligations.MarkAndUnassignedKindComplete := by
  intro s p h more words kind hturn
  refine ⟨fun hlength => ?ok, fun hlength hwf => ?badLength, fun hwf => ?unassigned⟩
  case ok =>
    refine hturn.answers (i := .mark p h []) rfl (wholeRecord_two hlength 0) Request.isLine_headerWord
      (Request.station_nameless (.inr rfl) h [0]) ?_
    rw [State.doLocal_mark _ _ (Request.kind_headerWord ..)]
    exact State.doMark_ok _ (Request.rightLength_two hlength 0)
  case badLength =>
    have hwhole := Instr.wholeRecord_of_wf (i := .mark p h more) rfl hwf
    refine hturn.answers (i := .mark p h more) rfl hwhole Request.isLine_headerWord
      (Request.station_nameless (.inr rfl) h (0 :: more)) ?_
    rw [State.doLocal_mark _ _ (Request.kind_headerWord ..)]
    exact State.doMark_wrongLength _ ((Request.wrongLength_two_iff hwhole).mpr hlength)
  case unassigned =>
    have hwhole := Instr.wholeRecord_of_wf (i := .unassignedKind p kind h words) rfl hwf
    have hkind : unassigned kind = true := by
      unfold Instr.wf at hwf
      exact (Bool.and_eq_true_iff.mp hwf).1
    refine hturn.answers (i := .unassignedKind p kind h words) rfl hwhole (unassigned_isLine hkind h words)
      (unassigned_station hkind h words) ?_
    exact State.doLocal_unassigned _ _ (by rw [Request.kind_headerWord]; exact hkind)

end

section
/-! SUPPORT. What RELEASE and the QUERY requests do (R156-R158). -/

-- Under this option Lean elaborates the proofs one after another: each thread of its own would reserve its own memory.
set_option deprecated.oldSectionVars true

namespace Sys2Proof.Machine

open Sys2Proof

section

variable (s : State) (p : Port) {r : Request}

theorem State.doRelease_wrongLength (hwrong : r.wrongLength 2 = true) :
    s.doRelease p r = .completes s (completionOf r .badReq 0 0 []) := if_pos hwrong

theorem State.doRelease_ok (hright : ¬ r.wrongLength 2 = true) : s.doRelease p r
    = .completes (s.emptyWatch p r.slot) (completionOf r .ok (s.watch p r.slot).cause.code 0 []) := if_neg hright

theorem State.doQuery_wrongLength (hwrong : r.wrongLength 2 = true) :
    s.doQuery p r = .completes s (completionOf r .badReq 0 0 []) := if_pos hwrong

theorem State.doQuery_station (hright : ¬ r.wrongLength 2 = true) (htop : r.top = 1) :
    s.doQuery p r = s.doQueryStation r := by
  rw [State.doQuery, if_neg hright, if_pos htop]

theorem State.doQuery_changes (hright : ¬ r.wrongLength 2 = true) (htop : r.top = 2) :
    s.doQuery p r = s.doQueryChanges p r := by
  simp [State.doQuery, hright, htop]

theorem State.doQuery_watches (hright : ¬ r.wrongLength 2 = true) (htop : r.top = 3) :
    s.doQuery p r = s.doQueryWatches p r := by
  simp [State.doQuery, hright, htop]

theorem State.doQuery_line (hright : ¬ r.wrongLength 2 = true) (htop : r.top = 4) :
    s.doQuery p r = s.doQueryLine r := by
  simp [State.doQuery, hright, htop]

theorem State.doQueryStation_bad (hbad : stationAddress r.second = false) :
    s.doQueryStation r = .completes s (completionOf r .badReq 0 0 []) := by
  rw [State.doQueryStation, hbad]
  exact if_neg Bool.false_ne_true

theorem State.doQueryStation_none (ha : stationAddress r.second = true) (hnone : s.entryOf r.second = none) :
    s.doQueryStation r = .completes s (completionOf r .notAttached 0 0 []) := by
  simp only [State.doQueryStation, ha, hnone, if_true]

theorem State.doQueryStation_some (ha : stationAddress r.second = true) {e : Entry} (he : s.entryOf r.second = some e) :
    s.doQueryStation r = .completes s (completionOf r .ok 0 0 (stationWords e)) := by
  simp only [State.doQueryStation, ha, he, if_true]

end

/-- The words of the four slots follow in slot order (R157, R194). -/
theorem watchWords_all (ws : Quad Watch) : ws.toList.flatMap watchWords
    = watchWords (ws.get 0) ++ watchWords (ws.get 1) ++ watchWords (ws.get 2) ++ watchWords (ws.get 3) := by
  simp only [Quad.toList, Quad.get, List.flatMap_cons, List.flatMap_nil, List.append_nil, List.append_assoc]

theorem State.doQueryWatches_eq (s : State) (p : Port) (r : Request) : s.doQueryWatches p r
    = .completes s (completionOf r .ok 0 0 (watchWords (s.watch p 0) ++ watchWords (s.watch p 1)
      ++ watchWords (s.watch p 2) ++ watchWords (s.watch p 3))) :=
  congrArg (LocalResult.completes s ∘ completionOf r .ok 0 0) (watchWords_all (s.watches.get p))

theorem State.clearChanged_entry (s : State) (p : Port) (k : Nat) :
    (s.clearChanged p).entry k = (s.entry k).map fun e => { e with changed := PortSet.remove e.changed p } :=
  State.entry_of_table_map rfl k

/-! ### A QUERY on its turn -/

section

variable {s : State} {p : Port} (hturn : s.LocalTurn p) {i : Instr} {h : Header} {sub a : Byte} {more : List Word}

include hturn

/-- A QUERY of a wrong length completes BADREQ (R157). -/
theorem State.LocalTurn.query_wrongLength (hrecord : i.record = some (p, queryRecord h sub a more)) (hwf : i.wf = true)
    (hlength : h.length ≠ 2#8) :
    Answers i s p (localRecord 13#4 h (if sub = 1 then a else 0) .badReq 0 []) := by
  have hwhole := Instr.wholeRecord_of_wf hrecord hwf
  refine hturn.answers hrecord hwhole Request.isLine_headerWord (Request.station_query h sub a 0 more) ?_
  rw [State.doLocal_query _ _ (Request.kind_headerWord ..)]
  exact State.doQuery_wrongLength _ _ ((Request.wrongLength_two_iff hwhole).mpr hlength)

/-- A QUERY whose sub-operation changes nothing completes with what that gives (R157). -/
theorem State.LocalTurn.query_answers (hrecord : i.record = some (p, queryRecord h sub a [])) (hlength : h.length = 2#8)
    {status : Status} {words : List Word}
    (hdo : (s.queueing p ⟨headerWord reqQuery h, [subWord sub a 0]⟩).doQuery p
        ⟨headerWord reqQuery h, [subWord sub a 0]⟩
      = .completes (s.queueing p ⟨headerWord reqQuery h, [subWord sub a 0]⟩)
        (completionOf ⟨headerWord reqQuery h, [subWord sub a 0]⟩ status 0 0 words)) :
    Answers i s p (localRecord 13#4 h (if sub = 1 then a else 0) status 0 words) := by
  refine hturn.answers hrecord (wholeRecord_two hlength _) Request.isLine_headerWord
    (Request.station_query h sub a 0 []) ?_
  rw [State.doLocal_query _ _ (Request.kind_headerWord ..)]
  exact hdo

end

end Sys2Proof.Machine
end

section
/-! CLAIM. RELEASE and the QUERY requests. -/

-- Under this option Lean elaborates the proofs one after another: each thread of its own would reserve its own memory.
set_option deprecated.oldSectionVars true

open Sys2Proof Sys2Proof.Machine

/-- Settles O27: the one slot that the header names is emptied, and the completion shows the cause it held. -/
theorem releaseEmptiesTheSlot : Obligations.ReleaseEmptiesTheSlot := by
  refine fun s p h more hturn => ⟨fun hlength => ?ok, fun hlength hwf => ?badLength⟩
  case ok =>
    obtain ⟨hexec, hdone⟩ := hturn.completes (i := .release p h []) rfl (wholeRecord_two hlength 0)
      Request.isLine_headerWord (Request.station_nameless (.inl rfl) h [0])
      ((State.doLocal_release _ _ (Request.kind_headerWord ..)).trans
        (State.doRelease_ok _ _ (Request.rightLength_two hlength 0))) rfl rfl
    rw [Request.slot_headerWord] at hexec hdone
    exact ⟨_, hexec, hdone, fun q j => s.setWatch_watch p q h.slot j Watch.emptySlot, rfl⟩
  case badLength =>
    have hwhole := Instr.wholeRecord_of_wf (i := .release p h more) rfl hwf
    refine hturn.answers (i := .release p h more) rfl hwhole Request.isLine_headerWord
      (Request.station_nameless (.inl rfl) h (0 :: more)) ?_
    rw [State.doLocal_release _ _ (Request.kind_headerWord ..)]
    exact State.doRelease_wrongLength _ _ ((Request.wrongLength_two_iff hwhole).mpr hlength)

/-- Settles O33: each sub-operation reads the state as it stands, and QUERY CHANGES alone changes more than its port. -/
theorem queriesReadTheState : Obligations.QueriesReadTheState := by
  refine ⟨fun s p h a hlength hturn => ⟨fun hbad => ?bad, fun ha hnone => ?none, fun e ha he => ?some, ?watches, ?line⟩,
    fun s p h hlength hturn => ?changes, fun s p h a more hturn hlength => ⟨fun i hi hwf => ?badLength, fun hwf =>
      hturn.query_wrongLength (i := .queryStation p h a more) rfl hwf hlength⟩⟩
  case bad =>
    refine hturn.query_answers (i := .queryStation p h a []) rfl hlength ?_
    rw [State.doQuery_station _ _ (Request.rightLength_two hlength _) (Request.top_subWord ..)]
    exact State.doQueryStation_bad _ (by rwa [Request.second_subWord])
  case none =>
    refine hturn.query_answers (i := .queryStation p h a []) rfl hlength ?_
    rw [State.doQuery_station _ _ (Request.rightLength_two hlength _) (Request.top_subWord ..)]
    exact State.doQueryStation_none _ (by rwa [Request.second_subWord]) (by rw [Request.second_subWord]; exact hnone)
  case some =>
    refine hturn.query_answers (i := .queryStation p h a []) rfl hlength ?_
    rw [State.doQuery_station _ _ (Request.rightLength_two hlength _) (Request.top_subWord ..)]
    exact State.doQueryStation_some _ (by rwa [Request.second_subWord]) (by rw [Request.second_subWord]; exact he)
  case watches =>
    refine hturn.query_answers (i := .queryWatches p h []) rfl hlength ?_
    rw [State.doQuery_watches _ _ (Request.rightLength_two hlength _) (Request.top_subWord ..)]
    exact State.doQueryWatches_eq _ p _
  case line =>
    refine hturn.query_answers (i := .queryLine p h []) rfl hlength ?_
    exact State.doQuery_line _ _ (Request.rightLength_two hlength _) (Request.top_subWord ..)
  case changes =>
    obtain ⟨hexec, hdone⟩ := hturn.completes (i := .queryChanges p h []) rfl (wholeRecord_two hlength _)
      Request.isLine_headerWord (Request.station_query h 2 0 0 [])
      ((State.doLocal_query _ _ (Request.kind_headerWord ..)).trans
        (State.doQuery_changes _ _ (Request.rightLength_two hlength _) (Request.top_subWord ..))) rfl rfl
    exact ⟨_, hexec, hdone, fun k => s.clearChanged_entry p k, rfl⟩
  case badLength =>
    simp only [List.mem_cons, List.not_mem_nil, or_false] at hi
    rcases hi with rfl | rfl | rfl
    · exact hturn.query_wrongLength (i := .queryChanges p h more) rfl hwf hlength
    · exact hturn.query_wrongLength (i := .queryWatches p h more) rfl hwf hlength
    · exact hturn.query_wrongLength (i := .queryLine p h more) rfl hwf hlength

end

section
/-! SUPPORT. What DETACH does (R43, R44, R118, R155). -/

-- Under this option Lean elaborates the proofs one after another: each thread of its own would reserve its own memory.
set_option deprecated.oldSectionVars true

namespace Sys2Proof.Machine

open Sys2Proof

/-- A set that a port leaves is empty just where the port was its one member. -/
theorem PortSet.isEmpty_remove_iff {a : PortSet} {p : Port} (hp : a.get p = true) :
    PortSet.isEmpty (PortSet.remove a p) = true ↔ a = PortSet.single p := by
  rw [← Bool.not_eq_false, PortSet.isEmpty_false_iff, not_exists]
  constructor
  · refine fun hnone => Quad.ext_get fun q => ?_
    have hq := hnone q
    rw [PortSet.get_remove] at hq
    rw [PortSet.get_single]
    by_cases hqp : q = p
    · rw [hqp, hp, decide_eq_true rfl]
    · rw [if_neg hqp] at hq
      rw [Bool.eq_false_of_not_eq_true hq, decide_eq_false hqp]
  · rintro rfl q hq
    rw [PortSet.get_remove, PortSet.get_single] at hq
    split at hq
    · cases hq
    next hqp => exact hqp (of_decide_eq_true hq)

/-- The record of an exchange in flight once slot k is freed (R45). -/
def Exchange.orphanedBy (x : Exchange) (k : Nat) : Exchange := { x with orphan := x.orphan || decide (x.slot = some k) }

theorem Exchange.orphanedBy_eq (x : Exchange) (k : Nat) :
    (if x.slot = some k then { x with orphan := true } else x) = x.orphanedBy k := by
  by_cases hslot : x.slot = some k
  · rw [if_pos hslot, Exchange.orphanedBy, decide_eq_true hslot, Bool.or_true]
  · rw [if_neg hslot, Exchange.orphanedBy, decide_eq_false hslot, Bool.or_false]

/-! ### A port that leaves an entry -/

section

variable {s : State} {p : Port} {k : Nat} {e : Entry} (he : s.entry k = some e) (hp : e.attached.get p = true)

include he hp

/-- The watches of the port on the station are emptied (R118). -/
theorem State.leaveEntry_watch_eq (q : Port) (j : WatchNo) : (s.leaveEntry p k).watch q j
    = if q = p ∧ (s.watch p j).names e.address = true then Watch.emptySlot else s.watch q j := by
  have hleft : (s.leaveEntry p k).watch q j
      = ((s.setEntry k (some (e.without p))).emptyWatchesOn p e.address).watch q j := by
    rw [State.leaveEntry_of_attached he hp]
    split <;> rfl
  rw [hleft, State.emptyWatchesOn_watch]
  by_cases hq : q = p
  · subst hq; rfl
  · rw [if_neg fun h => hq h.1, if_neg fun h => hq h.1]
    rfl

/-- An entry that other ports keep loses the port alone (R43). -/
theorem State.leaveEntry_kept (hothers : e.attached ≠ PortSet.single p) :
    s.leaveEntry p k = (s.setEntry k (some (e.without p))).emptyWatchesOn p e.address :=
  (State.leaveEntry_of_attached he hp).trans (if_neg fun hempty => hothers ((PortSet.isEmpty_remove_iff hp).mp hempty))

/-- An entry left with no port is freed (R44). -/
theorem State.leaveEntry_freed (hlast : e.attached = PortSet.single p) :
    s.leaveEntry p k = ((s.setEntry k (some (e.without p))).emptyWatchesOn p e.address).freeEntry k :=
  (State.leaveEntry_of_attached he hp).trans (if_pos ((PortSet.isEmpty_remove_iff hp).mpr hlast))

theorem State.leaveEntry_freed_table (hlast : e.attached = PortSet.single p) :
    (s.leaveEntry p k).table = s.table.set k none := by
  rw [State.leaveEntry_freed he hp hlast]
  exact List.set_set ..

theorem State.leaveEntry_freed_exchange (hlast : e.attached = PortSet.single p) :
    (s.leaveEntry p k).exchange = s.exchange.map (·.orphanedBy k) := by
  rw [State.leaveEntry_freed he hp hlast]
  exact congrArg (Option.map · s.exchange) (funext fun x => x.orphanedBy_eq k)

end

/-! ### The request (R155) -/

section

variable (s : State) (p : Port) {r : Request}

theorem State.doDetach_bad (hbad : r.wrongLength 2 = true ∨ stationAddress r.top = false) :
    s.doDetach p r = .completes s (completionOf r .badReq 0 0 []) :=
  if_pos (by simpa [Bool.or_eq_true] using hbad)

section

variable (hright : ¬ r.wrongLength 2 = true) (ha : stationAddress r.top = true)

include hright ha

theorem State.doDetach_free (hslot : s.slotOf r.top = none) :
    s.doDetach p r = .completes s (completionOf r .notAttached 0 0 []) := by
  simp [State.doDetach, hright, ha, hslot]

variable {k : Nat} {e : Entry} (hslot : s.slotOf r.top = some k) (he : s.entry k = some e)

include hslot he

theorem State.doDetach_stranger (hp : e.attached.get p = false) :
    s.doDetach p r = .completes s (completionOf r .notAttached 0 0 []) := by
  simp [State.doDetach, hright, ha, hslot, he, hp]

theorem State.doDetach_leaves (hp : e.attached.get p = true) :
    s.doDetach p r = .completes (s.leaveEntry p k) (completionOf r .ok e.state.code 0 []) := by
  simp [State.doDetach, hright, ha, hslot, he, hp]

end

end

end Sys2Proof.Machine
end

section
/-! CLAIM. DETACH. -/

-- Under this option Lean elaborates the proofs one after another: each thread of its own would reserve its own memory.
set_option deprecated.oldSectionVars true

open Sys2Proof Sys2Proof.Machine

/-- Settles O26: by the entry of the address, and whether the port is attached to it and alone. -/
theorem detachLeavesTheEntry : Obligations.DetachLeavesTheEntry := by
  refine ⟨fun s p h a hlength hturn ha => ⟨fun hslot => ?free, fun k e hslot he hp => ?stranger, fun k e hslot he hp =>
    ?leaves⟩, fun s p h a more hturn hwf hbad => ?bad⟩
  case free =>
    refine hturn.answers (i := .detach p h a []) rfl (wholeRecord_two hlength _) Request.isLine_headerWord
      (Request.station_addressWord (.inr rfl) h a []) ?_
    rw [State.doLocal_detach _ _ (Request.kind_headerWord ..)]
    exact State.doDetach_free _ _ (Request.rightLength_two hlength _) (by rwa [Request.top_addressWord])
      (by rw [Request.top_addressWord]; exact hslot)
  case stranger =>
    refine hturn.answers (i := .detach p h a []) rfl (wholeRecord_two hlength _) Request.isLine_headerWord
      (Request.station_addressWord (.inr rfl) h a []) ?_
    rw [State.doLocal_detach _ _ (Request.kind_headerWord ..)]
    exact State.doDetach_stranger _ _ (Request.rightLength_two hlength _) (by rwa [Request.top_addressWord])
      (by rw [Request.top_addressWord]; exact hslot) he hp
  case leaves =>
    have hqueued : (s.queueing p ⟨headerWord reqDetach h, [addressWord a]⟩).entry k = some e := he
    obtain ⟨hexec, hdone⟩ := hturn.completes (i := .detach p h a []) rfl (wholeRecord_two hlength _)
      Request.isLine_headerWord (Request.station_addressWord (.inr rfl) h a [])
      ((State.doLocal_detach _ _ (Request.kind_headerWord ..)).trans
        (State.doDetach_leaves _ _ (Request.rightLength_two hlength _) (by rwa [Request.top_addressWord])
          (by rw [Request.top_addressWord]; exact hslot) hqueued hp))
      (State.leaveEntry_run ..) (State.leaveEntry_ports ..)
    have hrest := State.leaveEntry_rest (s.queueing p ⟨headerWord reqDetach h, [addressWord a]⟩) p k
    refine ⟨_, hexec, hdone, fun q j => State.leaveEntry_watch_eq hqueued hp q j, fun hothers => ?kept,
      fun hlast => ?freed, (congrArg State.run hrest :), (congrArg State.loader hrest :), (congrArg State.line hrest :),
      (congrArg State.routing hrest :)⟩
    case kept =>
      rw [State.leaveEntry_kept hqueued hp hothers]
      exact ⟨rfl, rfl, rfl⟩
    case freed =>
      have hx := State.leaveEntry_freed_exchange hqueued hp hlast
      refine ⟨State.leaveEntry_freed_table hqueued hp hlast, ?_, fun x hsome => ?_, fun hnone => ?_⟩
      · rw [State.leaveEntry_freed hqueued hp hlast]
        rfl
      · exact hx.trans (congrArg (Option.map _) hsome)
      · exact hx.trans (congrArg (Option.map _) hnone)
  case bad =>
    have hwhole := Instr.wholeRecord_of_wf (i := .detach p h a more) rfl hwf
    refine hturn.answers (i := .detach p h a more) rfl hwhole Request.isLine_headerWord
      (Request.station_addressWord (.inr rfl) h a more) ?_
    rw [State.doLocal_detach _ _ (Request.kind_headerWord ..)]
    refine State.doDetach_bad _ _ ?_
    rwa [Request.wrongLength_two_iff hwhole, Request.top_addressWord, stationAddress_false_iff]

end

section
/-! SUPPORT. A local request that comes to wait at the head of its queue (R79, R147, R154), and what ATTACH does (R28,
R29, R81, R82, R153). -/

-- Under this option Lean elaborates the proofs one after another: each thread of its own would reserve its own memory.
set_option deprecated.oldSectionVars true

namespace Sys2Proof.Machine

open Sys2Proof

/-! ### Taking up what stands ready (R79, R147) -/

/-- The local request that alone stands ready executes first; what is then ready is taken up after it. -/
theorem State.settle_head (s : State) {p : Port} {t : State} {called : Bool}
    (hready : ∀ q, s.localReady q = decide (q = p)) (hexecute : s.executeHead p = (t, called)) :
    s.settle false = State.settleAll (2 * s.queued + 9) called t := by
  have hdue : s.due false = [.execute p] := by
    have hfilter : ([0, 1, 2, 3] : List Port).filter (fun q => s.localReady q) = [p] := by
      rw [funext hready, ports_filter_single]
    simp only [State.due, hfilter]
    rfl
  have htaken : State.settleAll (2 * s.queued + 10) false s
      = State.settleAll (2 * s.queued + 9) (false || (s.executeHead p).2) (s.executeHead p).1 := by
    rw [State.settleAll, hdue]
    rfl
  rw [State.settle, State.settleFuel, htaken, hexecute, Bool.false_or]

/-- While an exchange is in flight no choice is made (R79). -/
theorem State.settleAll_of_busy {s : State} (h : s.Quiet) (hx : s.exchange.isSome = true) (fuel : Nat) (call : Bool) :
    State.settleAll fuel call s = s := by
  cases fuel with
  | zero => rfl
  | succ fuel =>
    have hidle : s.exchange.isNone = false := by rw [← Option.not_isSome, hx]; rfl
    have hnone : s.due call = [] := by simp [State.due, h _, hidle]
    rw [State.settleAll, hnone]

/-- On an idle record the choice that is called for is made, and nothing after it. -/
theorem State.settleAll_chooses {s : State} (h : s.Quiet) (hx : s.exchange = none) (hafter : s.choice.Quiet)
    (fuel : Nat) : State.settleAll (fuel + 1) true s = s.choice := by
  have hdue : s.due true = [.choose] := by simp [State.due, h _, hx]
  rw [State.settleAll, hdue]
  exact State.settleAll_of_quiet hafter fuel

/-! ### A request that waits (R154) -/

/-- The Port Unit whose one request, just submitted, waits at the head (R142, R154). -/
def PortUnit.awaiting (u : PortUnit) (r : Request) : PortUnit :=
  { u with credits := u.credits - 1, headMark := .waiting, queue := [r], link := { u.link with sent := some 0 } }

/-- The request of port p is marked WAITING. -/
def State.marked (s : State) (p : Port) : State := s.updPort p ({ · with headMark := .waiting })

section

variable {s : State} {p : Port} (hturn : s.LocalTurn p) {r : Request} {u : State}
  (hports : u.ports = (s.queueing p r).ports)

include hturn hports

theorem State.LocalTurn.marked_port : (u.marked p).port p = (s.port p).awaiting r := by
  have hport : u.port p = (s.port p).queueing r :=
    (congrArg (Quad.get · p) hports).trans (s.queueing_port_same p r)
  rw [State.marked, State.updPort_port_same, hport, PortUnit.queueing, hturn.unoccupied.queue]
  rfl

theorem State.LocalTurn.marked_head : ((u.marked p).port p).headMark = .waiting ∧ ((u.marked p).port p).queue = [r]
    ∧ ((u.marked p).port p).completions = (s.port p).completions := by
  rw [hturn.marked_port hports]
  exact ⟨rfl, rfl, rfl⟩

omit hturn in
theorem State.LocalTurn.marked_others : OnlyPort s (u.marked p) p := fun q hq =>
  (State.updPort_port_ne _ hq _).trans ((congrArg (Quad.get · q) hports).trans (s.queueing_port_ne hq r))

/-- A head that waits does not execute again (R154). -/
theorem State.LocalTurn.marked_quiet (hrun : u.run = s.run) : (u.marked p).Quiet := by
  intro q
  by_cases hq : q = p
  · subst hq
    have hport := hturn.marked_port hports
    simp [State.localReady, hport, PortUnit.awaiting]
  · exact (State.localReady_congr (s := s) (t := u.marked p) hrun (State.LocalTurn.marked_others hports q hq)).trans
      (hturn.quiet q)

end

section

variable {s : State} {p : Port} (hturn : s.LocalTurn p) {i : Instr} {header : Word} {body : List Word}
  (hrecord : i.record = some (p, header :: body)) (hwhole : wholeRecord (header :: body) = true)
  (hlocal : Request.isLine ⟨header, body⟩ = false) {u : State} {gained : Bool}
  (hdo : (s.queueing p ⟨header, body⟩).doLocal p ⟨header, body⟩ = .waits u gained)
  (hports : u.ports = (s.queueing p ⟨header, body⟩).ports)

include hturn hrecord hwhole hlocal hdo

/-- The request row whose request comes to wait: what is left is to take up what its execution has called for. -/
theorem State.LocalTurn.exec_waits :
    exec i s = .next (State.settleAll (2 * (s.queueing p ⟨header, body⟩).queued + 9) gained (u.marked p)) := by
  have hqueued : ((s.queueing p ⟨header, body⟩).port p).queue = [⟨header, body⟩] := by
    rw [s.queueing_port_same, PortUnit.queueing, hturn.unoccupied.queue, List.nil_append]
  have hexecute : (s.queueing p ⟨header, body⟩).executeHead p = (u.marked p, gained) := by
    simp only [State.executeHead, hqueued, hdo, State.marked]
  rw [exec_of_record i s hrecord, s.submitWords_queueing hturn.submitting hturn.accepting hwhole, hlocal, Bool.and_false,
    State.settle_head _ (hturn.ready hlocal) hexecute]

include hports

/-- Without a choice the request is left waiting, and that is all. -/
theorem State.LocalTurn.waits (hrun : u.run = s.run) (hcall : gained = false ∨ u.exchange.isSome = true) :
    exec i s = .next (u.marked p) := by
  have hquiet := hturn.marked_quiet hports hrun
  rw [hturn.exec_waits hrecord hwhole hlocal hdo]
  rcases hcall with rfl | hx
  · rw [State.settleAll_of_quiet hquiet]
  · rw [State.settleAll_of_busy hquiet hx]

end

/-- On an idle record the choice that the execution has called for follows (R79). -/
theorem State.LocalTurn.waits_chosen {s : State} {p : Port} (hturn : s.LocalTurn p) {i : Instr} {header : Word}
    {body : List Word} (hrecord : i.record = some (p, header :: body)) (hwhole : wholeRecord (header :: body) = true)
    (hlocal : Request.isLine ⟨header, body⟩ = false) {u : State}
    (hdo : (s.queueing p ⟨header, body⟩).doLocal p ⟨header, body⟩ = .waits u true)
    (hports : u.ports = (s.queueing p ⟨header, body⟩).ports) (hrun : u.run = s.run) (hx : u.exchange = none)
    {t : State} (hchoice : (u.marked p).choice = t) (hafter : t.ports = (u.marked p).ports) (hstays : t.run = u.run) :
    exec i s = .next t := by
  have hquiet := hturn.marked_quiet hports hrun
  have hchosen : (u.marked p).choice.Quiet := by
    rw [hchoice]
    exact hquiet.of_ports hstays hafter
  rw [hturn.exec_waits hrecord hwhole hlocal hdo, State.settleAll_chooses hquiet hx hchosen, hchoice]

/-! ### The claim of an ATTACH (R29) -/

section

variable (s : State) (p : Port) {a : Byte}

theorem State.attachClaim_full (hslot : s.slotOf a = none) (hfree : s.freeSlot = none) :
    s.attachClaim p a = (s, .full) := by
  simp only [State.attachClaim, hslot, hfree]

theorem State.attachClaim_created (hslot : s.slotOf a = none) {k : Nat} (hfree : s.freeSlot = some k) :
    s.attachClaim p a = (s.createEntry k a (PortSet.single p), .created) := by
  simp only [State.attachClaim, hslot, hfree]

variable {k : Nat} {e : Entry} (hslot : s.slotOf a = some k) (he : s.entry k = some e)

include hslot he

theorem State.attachClaim_already (hp : e.attached.get p = true) : s.attachClaim p a = (s, .already e.state) := by
  simp only [State.attachClaim, hslot, he, hp, if_true]

theorem State.attachClaim_joined (hp : e.attached.get p = false) : s.attachClaim p a
    = (s.setEntry k (some { e with attached := e.attached.set p true }), .joined e.state) := by
  simp only [State.attachClaim, hslot, he, hp, Bool.false_eq_true, if_false]

end

section

variable (s : State) (p : Port) {r : Request}

theorem State.doAttach_bad (hbad : r.wrongLength 2 = true ∨ stationAddress r.top = false) :
    s.doAttach p r = .completes s (completionOf r .badReq 0 0 []) :=
  if_pos (by simpa [Bool.or_eq_true] using hbad)

section

variable (hright : ¬ r.wrongLength 2 = true) (ha : stationAddress r.top = true) {t : State}

include hright ha

theorem State.doAttach_created (hclaim : s.attachClaim p r.top = (t, .created)) : s.doAttach p r = .waits t true := by
  simp [State.doAttach, hright, ha, hclaim]

theorem State.doAttach_probing (hclaim : s.attachClaim p r.top = (t, .joined .probing)) :
    s.doAttach p r = .waits t false := by
  simp [State.doAttach, hright, ha, hclaim]

theorem State.doAttach_offline (hclaim : s.attachClaim p r.top = (t, .joined .offline)) :
    s.doAttach p r = .completes t (completionOf r .offline 0 0 []) := by
  simp [State.doAttach, hright, ha, hclaim]

theorem State.doAttach_ok {state : StationState} (hstate : state = .online ∨ state = .suspect)
    (hclaim : s.attachClaim p r.top = (t, .joined state)) :
    s.doAttach p r = .completes t (completionOf r .ok state.code 0 []) := by
  rcases hstate with rfl | rfl <;> simp [State.doAttach, hright, ha, hclaim]

theorem State.doAttach_full (hclaim : s.attachClaim p r.top = (t, .full)) :
    s.doAttach p r = .completes t (completionOf r .tableFull 0 0 []) := by
  simp [State.doAttach, hright, ha, hclaim]

theorem State.doAttach_already {state : StationState} (hclaim : s.attachClaim p r.top = (t, .already state)) :
    s.doAttach p r = .completes t (completionOf r .already state.code 0 []) := by
  simp [State.doAttach, hright, ha, hclaim]

end

end

/-- On an idle record with nothing else on the service list the probe of a new entry starts at once (R28, R80, R82). -/
theorem State.createEntry_choice (s : State) (p : Port) {k : Nat} {a : Byte} {ports : PortSet} (hx : s.exchange = none)
    (hrun : s.run = .running) (hlist : s.arbiter.serviceList = []) (hk : k < s.table.length) :
    ((s.createEntry k a ports).marked p).choice = ((s.setEntry k (some (newEntry a ports))).marked p).startExchange
      (pingExchange .probe k (newEntry a ports)) := by
  have hqueue : ((s.createEntry k a ports).marked p).arbiter.serviceList = [⟨k, a, .probe⟩] := by
    show s.arbiter.serviceList ++ [_] = _
    rw [hlist, List.nil_append]
  have hentry : ((s.createEntry k a ports).marked p).entry k = some (newEntry a ports) :=
    (s.setEntry_entry k k _ hk).trans (if_pos rfl)
  have hlist' : { s.arbiter with serviceList := [] } = s.arbiter := by rw [← hlist]
  rw [((s.createEntry k a ports).marked p).choice_service _ [] hx hrun hqueue, State.startService_of_entry _ hentry]
  show ({ (s.setEntry k (some (newEntry a ports))).marked p with
    arbiter := { s.arbiter with serviceList := [] } } : State).startExchange _ = _
  rw [hlist']
  rfl

end Sys2Proof.Machine
end

section
/-! CLAIM. ATTACH. -/

-- Under this option Lean elaborates the proofs one after another: each thread of its own would reserve its own memory.
set_option deprecated.oldSectionVars true

open Sys2Proof Sys2Proof.Machine

/-- Settles O25: by the table's answer to the claim. -/
theorem attachActsByTheTable : Obligations.AttachActsByTheTable := by
  refine ⟨fun s p h a hlength hturn ha hline => ⟨fun hslot hfree => ?full, fun k hslot hfree => ?created,
    fun k e hslot he hp => ?already, fun k e hslot he hp => ?joined⟩, fun s p h a more hturn hwf hbad => ?bad⟩
  case full =>
    refine hturn.answers (i := .attach p h a []) rfl (wholeRecord_two hlength _) Request.isLine_headerWord
      (Request.station_addressWord (.inl rfl) h a []) ?_
    rw [State.doLocal_attach _ _ (Request.kind_headerWord ..)]
    refine State.doAttach_full _ _ (Request.rightLength_two hlength _) (by rwa [Request.top_addressWord]) ?_
    rw [Request.top_addressWord]
    exact State.attachClaim_full _ p hslot hfree
  case created =>
    have hclaim := State.attachClaim_created (s.queueing p ⟨headerWord reqAttach h, [addressWord a]⟩) p hslot hfree
    have hdo := (State.doLocal_attach _ p (Request.kind_headerWord ..)).trans
      (State.doAttach_created _ _ (Request.rightLength_two hlength (addressWord a)) (by rwa [Request.top_addressWord])
        (by rw [Request.top_addressWord]; exact hclaim))
    have hrun : s.run = .running := hturn.submitting.running
    cases hx : s.exchange with
    | some x =>
      refine ⟨_, hturn.waits (i := .attach p h a []) rfl (wholeRecord_two hlength _) Request.isLine_headerWord hdo rfl rfl
        (.inr (congrArg Option.isSome hx)), hturn.marked_port rfl, State.LocalTurn.marked_others rfl, rfl,
        fun _ => ⟨hx, rfl⟩, nofun⟩
    | none =>
      have hlist : s.arbiter.serviceList = [] := hline.resolve_left (by simp [hx])
      refine ⟨_, hturn.waits_chosen (i := .attach p h a []) rfl (wholeRecord_two hlength _) Request.isLine_headerWord
        hdo rfl rfl hx (State.createEntry_choice _ p hx hrun hlist (s.lt_of_freeSlot hfree)) rfl rfl,
        hturn.marked_port rfl, State.LocalTurn.marked_others rfl, rfl, nofun,
        fun _ => ⟨rfl, _, rfl, rfl, rfl, rfl, rfl, rfl, rfl, rfl⟩⟩
  case already =>
    refine hturn.answers (i := .attach p h a []) rfl (wholeRecord_two hlength _) Request.isLine_headerWord
      (Request.station_addressWord (.inl rfl) h a []) ?_
    rw [State.doLocal_attach _ _ (Request.kind_headerWord ..)]
    refine State.doAttach_already _ _ (Request.rightLength_two hlength _) (by rwa [Request.top_addressWord]) ?_
    rw [Request.top_addressWord]
    exact State.attachClaim_already _ p hslot he hp
  case joined =>
    have hright := Request.rightLength_two (kind := reqAttach) hlength (addressWord a)
    have hstation := Request.station_addressWord (.inl rfl) h a []
    have htop : stationAddress (Request.top ⟨headerWord reqAttach h, [addressWord a]⟩) = true := by
      rwa [Request.top_addressWord]
    have hclaim := (congrArg (State.attachClaim _ p) (Request.top_addressWord (headerWord reqAttach h) a [])).trans
      (State.attachClaim_joined (s.queueing p ⟨headerWord reqAttach h, [addressWord a]⟩) p hslot he hp)
    have hlocal := State.doLocal_attach (s.queueing p ⟨headerWord reqAttach h, [addressWord a]⟩) p
      (Request.kind_headerWord reqAttach h [addressWord a])
    cases hstate : e.state with
    | online | suspect =>
      rw [hstate] at hclaim
      obtain ⟨hexec, hdone⟩ := hturn.completes (i := .attach p h a []) rfl (wholeRecord_two hlength _)
        Request.isLine_headerWord hstation (hlocal.trans (State.doAttach_ok _ p hright htop (by simp) hclaim)) rfl rfl
      exact ⟨_, hexec, rfl, rfl, hdone.others, fun _ => hdone, nofun, nofun⟩
    | offline =>
      rw [hstate] at hclaim
      obtain ⟨hexec, hdone⟩ := hturn.completes (i := .attach p h a []) rfl (wholeRecord_two hlength _)
        Request.isLine_headerWord hstation (hlocal.trans (State.doAttach_offline _ p hright htop hclaim)) rfl rfl
      exact ⟨_, hexec, rfl, rfl, hdone.others, nofun, fun _ => hdone, nofun⟩
    | probing =>
      rw [hstate] at hclaim
      have hexec := hturn.waits (i := .attach p h a []) rfl (wholeRecord_two hlength _) Request.isLine_headerWord
        (hlocal.trans (State.doAttach_probing _ p hright htop hclaim)) rfl rfl (.inl rfl)
      exact ⟨_, hexec, rfl, rfl, State.LocalTurn.marked_others rfl, nofun, nofun, fun _ => hturn.marked_head rfl⟩
  case bad =>
    have hwhole := Instr.wholeRecord_of_wf (i := .attach p h a more) rfl hwf
    refine hturn.answers (i := .attach p h a more) rfl hwhole Request.isLine_headerWord
      (Request.station_addressWord (.inl rfl) h a more) ?_
    rw [State.doLocal_attach _ _ (Request.kind_headerWord ..)]
    refine State.doAttach_bad _ _ ?_
    rwa [Request.wrongLength_two_iff hwhole, Request.top_addressWord, stationAddress_false_iff]

end

section
/-! SUPPORT. The control word (R167, R196): how it is read, when its operation is taken, and what the outputs of a port
show (R176, R177). -/

-- Under this option Lean elaborates the proofs one after another: each thread of its own would reserve its own memory.
set_option deprecated.oldSectionVars true

namespace Sys2Proof.Machine

open Sys2Proof

/-! ### The layout of the control word (R196) -/

/-- A control word spells an operation just where its top byte is the operation's code. -/
theorem controlOp_eq_some_iff (w : Word) (op : ControlOp) : controlOp w = some op ↔ w.extractLsb' 24 8 = op.code := by
  unfold controlOp
  generalize w.extractLsb' 24 8 = code
  constructor
  · simp only
    intro h
    repeat' split at h
    all_goals cases h
    all_goals assumption
  · rintro rfl
    cases op <;> rfl

theorem controlOp_controlWord (op : ControlOp) (flags : Byte) : controlOp (controlWord op flags) = some op :=
  (controlOp_eq_some_iff _ op).mpr
    ((BitVec.extractLsb'_append_eq_of_le (by decide)).trans BitVec.extractLsb'_append_eq_left)

theorem controlFlags_controlWord (op : ControlOp) (flags : Byte) : controlFlags (controlWord op flags) = flags :=
  BitVec.extractLsb'_append_eq_right

/-! ### When an operation is taken (R167) -/

section

variable {s : State} {p : Port}

/-- A transaction acts on CONTROL only while the part runs (R142). -/
theorem State.running_of_acts_control (h : s.acts p .control = true) : s.run = .running := by
  simp only [State.acts, Bool.and_eq_true, Bool.or_eq_true, decide_eq_true_eq, reduceCtorEq, false_or] at h
  obtain ⟨-, -, hrun⟩ := h
  exact hrun

/-- The word that the part sends leaves the port's own fields as they are. -/
theorem State.send_port_state (s : State) (p : Port) (w : Word) : ((s.send p w).port p).state = (s.port p).state := by
  rw [State.send_port_same]

theorem State.takeControlWord_of_op (hacts : s.acts p .control = true) {w : Word} {op : ControlOp}
    (hop : controlOp w = some op) : s.takeControlWord p w = (s.send p 0).takeControl p op (controlFlags w) := by
  simp only [State.takeControlWord, hacts, if_true, hop]

theorem State.takeControlWord_unassigned (hacts : s.acts p .control = true) {w : Word} (hop : controlOp w = none) :
    s.takeControlWord p w = s.send p 0 := by
  simp only [State.takeControlWord, hacts, if_true, hop]

/-- An operation that the port's state does not allow is no change. -/
theorem State.takeControlWord_refused (hacts : s.acts p .control = true) {w : Word} {op : ControlOp}
    (hop : controlOp w = some op) (hrefused : op.allowed (s.port p).state = false) :
    s.takeControlWord p w = s.send p 0 := by
  rw [State.takeControlWord_of_op hacts hop, State.takeControl, State.send_port_state, hrefused]
  rfl

theorem State.controlWord_refused (hacts : s.acts p .control = true) (op : ControlOp) (flags : Byte)
    (hrefused : op.allowed (s.port p).state = false) : s.takeControlWord p (controlWord op flags) = s.send p 0 :=
  State.takeControlWord_refused hacts (controlOp_controlWord op flags) hrefused

/-- An operation that the port's state allows is taken, and the part sends zeros. -/
theorem State.controlWord_taken (hacts : s.acts p .control = true) (op : ControlOp) (flags : Byte)
    (hallowed : op.allowed (s.port p).state = true) :
    s.takeControlWord p (controlWord op flags) = (s.send p 0).control p op flags := by
  rw [State.takeControlWord_of_op hacts (controlOp_controlWord op flags), controlFlags_controlWord, State.takeControl,
    State.send_port_state, hallowed]
  rfl

/-- The codes that spell no operation, and the operations that a port's state does not allow (R167). -/
theorem ControlOp.refused_of_code {op : ControlOp} {state : PortState}
    (h : op.code.toNat = 0 ∨ 8 ≤ op.code.toNat ∨ (op.code.toNat = 1 ∧ state ≠ .closed)
      ∨ (op.code.toNat = 2 ∧ state ≠ .opened) ∨ (op.code.toNat = 3 ∧ state ≠ .dozing)
      ∨ (op.code.toNat = 4 ∧ (state = .closed ∨ state = .closing))) : op.allowed state = false := by
  cases op with
  | openPort | doze | wakeup => simpa [ControlOp.code, ControlOp.allowed] using h
  | close =>
    have hstate : state = .closed ∨ state = .closing := by simpa [ControlOp.code] using h
    exact PortState.admits_eq_false hstate
  | clear | mask | force => simp [ControlOp.code] at h

end

/-! ### The outputs of a port while the part runs (R176, R177) -/

section

variable {s : State} {p : Port}

theorem State.interruptOutput_of_not_opened (h : (s.port p).state ≠ .opened) : s.interruptOutput p = false := by
  have hport : (s.port p).interrupt = false := by simp [PortUnit.interrupt, h]
  show (_ && (s.port p).interrupt) = false
  rw [hport, Bool.and_false]

theorem State.wakeOutput_of_not_dozing (h : (s.port p).state ≠ .dozing) : s.wakeOutput p = false := by
  have hport : (s.port p).wakeOut = false := by simp [PortUnit.wakeOut, h]
  show (_ && (s.port p).wakeOut) = false
  rw [hport, Bool.and_false]

theorem State.interruptOutput_of_opened (hrun : s.run = .running) (h : (s.port p).state = .opened) :
    s.interruptOutput p = decide ((s.port p).flags &&& (s.port p).mask ≠ 0) := by
  show (decide (s.run ≠ .restarting) && (s.port p).interrupt) = _
  simp [hrun, PortUnit.interrupt, h]

theorem State.wakeOutput_of_dozing (hrun : s.run = .running) (h : (s.port p).state = .dozing) :
    s.wakeOutput p = (s.port p).sticky.wake := by
  show (decide (s.run ≠ .restarting) && (s.port p).wakeOut) = _
  simp [hrun, PortUnit.wakeOut, h]

end

end Sys2Proof.Machine
end

section
/-! CLAIM. OPEN, DOZE and WAKEUP; CLEAR, MASK and FORCE. -/

-- Under this option Lean elaborates the proofs one after another: each thread of its own would reserve its own memory.
set_option deprecated.oldSectionVars true

open Sys2Proof Sys2Proof.Machine

/-- Settles O16: each row is its control word, taken where the port's state allows it; the outputs follow the state in
which it leaves the port. -/
theorem openDozeAndWakeupMoveThePort : Obligations.OpenDozeAndWakeupMoveThePort := by
  refine ⟨fun s p hacts => ⟨fun hclosed => ?opens, fun hother => ?notOpened⟩,
    fun s p hacts => ⟨fun hopened => ?dozes, fun hdozing => ?wakes, fun hother => ?notDozed, fun hother => ?notWoken⟩,
    fun s p w hacts => ?invalid⟩
  case opens =>
    exact congrArg Host.Outcome.next (State.controlWord_taken hacts .openPort 0 (decide_eq_true hclosed))
  case notOpened =>
    exact congrArg Host.Outcome.next (State.controlWord_refused hacts .openPort 0 (decide_eq_false hother))
  case dozes =>
    refine ⟨_, congrArg Host.Outcome.next (State.controlWord_taken hacts .doze 0 (decide_eq_true hopened)), rfl,
      State.interruptOutput_of_not_opened ?_, (State.wakeOutput_of_dozing ?_ ?_).trans ?_⟩
    · simp [State.control]
    · exact (State.running_of_acts_control hacts : s.run = .running)
    · simp [State.control]
    · simp [State.control, State.send_port_same]
  case wakes =>
    refine ⟨_, congrArg Host.Outcome.next (State.controlWord_taken hacts .wakeup 0 (decide_eq_true hdozing)), rfl,
      State.wakeOutput_of_not_dozing ?_, (State.interruptOutput_of_opened ?_ ?_).trans ?_⟩
    · simp [State.control]
    · exact (State.running_of_acts_control hacts : s.run = .running)
    · simp [State.control]
    · simp only [State.control, State.updPort_port_same, State.send_port_same]
      rfl
  case notDozed => exact congrArg Host.Outcome.next (State.controlWord_refused hacts .doze 0 (decide_eq_false hother))
  case notWoken => exact congrArg Host.Outcome.next (State.controlWord_refused hacts .wakeup 0 (decide_eq_false hother))
  case invalid =>
    intro op state hinvalid
    show Host.Outcome.next (s.takeControlWord p w) = _
    cases hop : controlOp w with
    | none => rw [State.takeControlWord_unassigned hacts hop]
    | some o =>
      have hcode : op = o.code.toNat := congrArg BitVec.toNat ((controlOp_eq_some_iff w o).mp hop)
      rw [hcode] at hinvalid
      rw [State.takeControlWord_refused hacts hop (ControlOp.refused_of_code hinvalid)]

/-- Settles O18: the three operations are allowed in every state, and each is one change of the port. -/
theorem clearMaskAndForceActOnTheFlags : Obligations.ClearMaskAndForceActOnTheFlags := fun _ _ flags hacts =>
  ⟨congrArg Host.Outcome.next (State.controlWord_taken hacts .clear flags rfl),
    congrArg Host.Outcome.next (State.controlWord_taken hacts .mask flags rfl),
    congrArg Host.Outcome.next (State.controlWord_taken hacts .force flags rfl)⟩

end

section
/-! SUPPORT. The status word (R178, R196): its fields, read back from its bits. -/

-- Under this option Lean elaborates the proofs one after another: each thread of its own would reserve its own memory.
set_option deprecated.oldSectionVars true

namespace Sys2Proof.Machine

open Sys2Proof

/-! ### The layout of the status word (Section 10.6) -/

section

variable (s : State) (p : Port)

theorem State.statusWord_mask : (s.statusWord p).extractLsb' 0 8 = (s.port p).mask := BitVec.extractLsb'_append_eq_right

theorem State.statusWord_sticky : (s.statusWord p).extractLsb' 8 6 = (s.port p).sticky.bits :=
  (BitVec.extractLsb'_append_eq_of_le (by decide)).trans BitVec.extractLsb'_append_eq_right

theorem State.statusWord_credits :
    (s.statusWord p).extractLsb' 14 8 = creditByte (s.port p).credits (s.port p).completions.length :=
  calc
    _ = BitVec.extractLsb' 6 8 (_ ++ (s.port p).sticky.bits) := BitVec.extractLsb'_append_eq_of_le (by decide)
    _ = BitVec.extractLsb' 0 8 (_ ++ creditByte (s.port p).credits (s.port p).completions.length) :=
      BitVec.extractLsb'_append_eq_of_le (by decide)
    _ = _ := BitVec.extractLsb'_append_eq_right

/-- The bits of the status word from 22 up: the reports, RESTARTED, LOADING and the state. -/
theorem State.statusWord_upper (start len : Nat) : (s.statusWord p).extractLsb' (22 + start) len
    = ((s.port p).state.code ++ BitVec.ofBool (decide (s.run = .loading)) ++ BitVec.ofBool (s.port p).restarted
        ++ BitVec.ofNat 6 (s.port p).reports.length).extractLsb' start len := by
  refine (BitVec.extractLsb'_append_eq_of_le (by omega)).trans ?_
  refine (BitVec.extractLsb'_append_eq_of_le (by omega)).trans ?_
  refine (BitVec.extractLsb'_append_eq_of_le (by omega)).trans ?_
  congr 1
  omega

theorem State.statusWord_reports : (s.statusWord p).extractLsb' 22 6 = BitVec.ofNat 6 (s.port p).reports.length :=
  (s.statusWord_upper p 0 6).trans BitVec.extractLsb'_append_eq_right

theorem State.statusWord_state : (s.statusWord p).extractLsb' 30 2 = (s.port p).state.code :=
  (s.statusWord_upper p 8 2).trans <| calc
    _ = BitVec.extractLsb' 2 2 (_ ++ BitVec.ofBool (s.port p).restarted) :=
      BitVec.extractLsb'_append_eq_of_le (by decide)
    _ = BitVec.extractLsb' 1 2 (_ ++ BitVec.ofBool (decide (s.run = .loading))) :=
      BitVec.extractLsb'_append_eq_of_le (by decide)
    _ = _ := BitVec.extractLsb'_append_eq_left

/-- A bit of a word is a bit of each field that holds it. -/
theorem getLsbD_of_field {w : Word} {start len : Nat} {field : BitVec len} (h : w.extractLsb' start len = field)
    {i : Nat} (hi : i < len) : w.getLsbD (start + i) = field.getLsbD i := by
  rw [← h, BitVec.getLsbD_extractLsb', decide_eq_true hi, Bool.true_and]

theorem State.statusWord_restarted : (s.statusWord p).getLsbD 28 = (s.port p).restarted := by
  have hfield : (s.statusWord p).extractLsb' 28 1 = BitVec.ofBool (s.port p).restarted :=
    (s.statusWord_upper p 6 1).trans <|
      (BitVec.extractLsb'_append_eq_of_le (by decide)).trans BitVec.extractLsb'_append_eq_right
  exact (getLsbD_of_field hfield (i := 0) (by decide)).trans (by simp)

theorem State.statusWord_loading : (s.statusWord p).getLsbD 29 = decide (s.run = .loading) := by
  have hfield : (s.statusWord p).extractLsb' 29 1 = BitVec.ofBool (decide (s.run = .loading)) :=
    (s.statusWord_upper p 7 1).trans <| calc
      _ = BitVec.extractLsb' 1 1 (_ ++ BitVec.ofBool (s.port p).restarted) :=
        BitVec.extractLsb'_append_eq_of_le (by decide)
      _ = BitVec.extractLsb' 0 1 (_ ++ BitVec.ofBool (decide (s.run = .loading))) :=
        BitVec.extractLsb'_append_eq_of_le (by decide)
      _ = _ := BitVec.extractLsb'_append_eq_right
  exact (getLsbD_of_field hfield (i := 0) (by decide)).trans (by simp)

end

/-- The six sticky flags in their order, CHANGED lowest. -/
theorem Sticky.bits_getLsbD (f : Sticky) : f.bits.getLsbD 0 = f.changed ∧ f.bits.getLsbD 1 = f.broken
    ∧ f.bits.getLsbD 2 = f.refused ∧ f.bits.getLsbD 3 = f.overrun ∧ f.bits.getLsbD 4 = f.config
    ∧ f.bits.getLsbD 5 = f.wake := by
  have hbits : ∀ i, f.bits.getLsbD i = @BitVec.getLsbD (1 + 1 + 1 + 1 + 1 + 1) (BitVec.ofBool f.wake
    ++ BitVec.ofBool f.config ++ BitVec.ofBool f.overrun ++ BitVec.ofBool f.refused ++ BitVec.ofBool f.broken
    ++ BitVec.ofBool f.changed) i := fun _ => rfl
  simp only [hbits, BitVec.getLsbD_append]
  simp

/-- The credit byte of fewer than 16 credits and records is their two hexadecimal digits (R196). -/
theorem creditByte_eq {credits completions : Nat} (h : credits + completions ≤ 16) : creditByte credits completions
    = if credits = 16 then 0xFF#8 else if completions = 16 then 0xFE#8
      else BitVec.ofNat 8 (credits * 16 + completions) := by
  unfold creditByte
  split
  · rfl
  · split
    · rfl
    next hcredits hcompletions =>
      have hc : credits < 2 ^ 4 := by omega
      have hm : completions < 2 ^ 4 := by omega
      refine BitVec.eq_of_toNat_eq ?_
      rw [BitVec.toNat_append, BitVec.toNat_ofNat, BitVec.toNat_ofNat, BitVec.toNat_ofNat, Nat.mod_eq_of_lt hc,
        Nat.mod_eq_of_lt hm, ← Nat.shiftLeft_add_eq_or_of_lt hm, Nat.shiftLeft_eq, Nat.mod_eq_of_lt (by omega)]

/-! ### The status word while the load runs (R181, R182) -/

/-- A port as power-on reset left it shows, while the load runs, all its credits and nothing else but LOADING. -/
theorem State.statusWord_of_untouched {s : State} {p : Port} (hrun : s.run = .loading) (h : (s.port p).untouched) :
    s.statusWord p = 0x203FC000#32 := by
  have hport : s.ports.get p = { PortUnit.reset with link := (s.port p).link } :=
    congrArg (fun u : PortUnit => { u with link := (s.port p).link }) h
  unfold State.statusWord
  rw [hport, hrun]
  show (PortState.closed.code ++ BitVec.ofBool true ++ BitVec.ofBool false ++ BitVec.ofNat 6 0 ++ creditByte 16 0
    ++ Sticky.allClear.bits ++ (0 : Byte) : BitVec 32) = _
  decide

end Sys2Proof.Machine
end

section
/-! CLAIM. STATUS_READ. -/

-- Under this option Lean elaborates the proofs one after another: each thread of its own would reserve its own memory.
set_option deprecated.oldSectionVars true

open Sys2Proof Sys2Proof.Machine

/-- Settles O15: a word in full is sent and clears RESTARTED, and each field of the word is read back by its lemma. -/
theorem statusReadSendsTheStatusWord : Obligations.StatusReadSendsTheStatusWord := by
  refine ⟨fun s p hacts => ⟨?full, ?cut, fun hinv hrun => ?loading⟩, fun s p => ?layout⟩
  case full =>
    show execStatusRead p true s = _
    rw [execStatusRead, hacts]
    exact congrArg Host.Outcome.next (State.updPort_updPort ..)
  case cut =>
    show execStatusRead p false s = _
    rw [execStatusRead, Bool.and_false]
    rfl
  case loading =>
    obtain ⟨huntouched, -⟩ := hinv (.inr hrun)
    exact State.statusWord_of_untouched hrun (huntouched p)
  case layout =>
    intro u w hcredits hreports
    have hflag : ∀ i, i < 6 → w.getLsbD (8 + i) = u.sticky.bits.getLsbD i :=
      fun i hi => getLsbD_of_field (s.statusWord_sticky p) hi
    obtain ⟨hchanged, hbroken, hrefused, hoverrun, hconfig, hwake⟩ := u.sticky.bits_getLsbD
    refine ⟨(s.statusWord_state p).trans ?state, by rw [s.statusWord_loading p, decide_eq_true_iff],
      s.statusWord_restarted p, ?reports, (s.statusWord_credits p).trans (creditByte_eq hcredits),
      (hflag 0 (by decide)).trans hchanged, (hflag 1 (by decide)).trans hbroken, (hflag 2 (by decide)).trans hrefused,
      (hflag 3 (by decide)).trans hoverrun, (hflag 4 (by decide)).trans hconfig, (hflag 5 (by decide)).trans hwake,
      s.statusWord_mask p⟩
    case state =>
      show u.state.code = _
      cases u.state <;> rfl
    case reports =>
      rw [s.statusWord_reports p, BitVec.toNat_ofNat]
      exact Nat.mod_eq_of_lt (Nat.lt_of_le_of_lt hreports (by decide))

end

section
/-! SUPPORT. The part at power-on reset (R181, R182), and that the reset state meets the invariants of the table, the
parameters and the load. -/

-- Under this option Lean elaborates the proofs one after another: each thread of its own would reserve its own memory.
set_option deprecated.oldSectionVars true

namespace Sys2Proof.Machine

open Sys2Proof

/-! ### The blocks at reset -/

/-- A table of 32 FREE slots holds no entry (R50). -/
theorem State.entry_of_freed {s : State} (h : s.table = List.replicate Config.stationSlots none) (k : Nat) :
    s.entry k = none := by
  rw [State.entry, h, List.getD_eq_getElem?_getD, List.getElem?_replicate]
  split <;> rfl

theorem State.reset_port (p : Port) : State.reset.port p = PortUnit.reset := Quad.get_fill _ _

theorem PortUnit.reset_balanced : PortUnit.reset.Balanced :=
  ⟨rfl, fun _ => ⟨rfl, rfl, rfl⟩, fun _ => ⟨rfl, rfl⟩⟩

/-- What POWER_ON_RESET leaves of a Port Unit is untouched, whatever its transaction does (R181; log 10). -/
theorem PortUnit.untouched_reset (l : Link) : ({ PortUnit.reset with link := l } : PortUnit).untouched := rfl

/-! ### The invariants of the reset state -/

theorem State.reset_creditInv : CreditInv State.reset :=
  creditInv_of_grounded (fun p => by rw [State.reset_port]; exact PortUnit.reset_balanced)
    (fun p => congrArg PortUnit.inFlight (State.reset_port p)) fun _ p => congrArg PortUnit.state (State.reset_port p)

/-- With no entry in use the form of the table asks for its 32 slots alone. -/
theorem tableInv_of_freed {s : State} (h : s.table = List.replicate Config.stationSlots none) : TableInv s := by
  have hnone : ∀ k e, s.entry k ≠ some e := fun k e he => by cases (State.entry_of_freed h k).symm.trans he
  exact ⟨by rw [h, List.length_replicate], fun k e he => absurd he (hnone k e), fun k e he => absurd he (hnone k e),
    fun j _ e _ he => absurd he (hnone j e), fun k e _ he => absurd he (hnone k e),
    fun k e _ he => absurd he (hnone k e)⟩

theorem State.reset_limitInv : LimitInv State.reset := by
  refine (limitInv_iff _).mpr ⟨⟨Nat.zero_le _, fun p => ?_, fun p => .of_no_keys ?_⟩, Arbiter.reset_cycleWf⟩
  · rw [State.reset_port]
    exact Nat.zero_le _
  · exact congrArg Routing.keys (Quad.get_fill Routing.cleared p)

/-- The defaults of Section 9.3 are in their ranges (R186). -/
theorem Config.defaults_inRange : ParamsInRange Config.defaults where
  rateCode := by decide
  replyTimeout := by decide
  retryLimit := by decide
  failureThreshold := by decide
  pollPeriod := by decide
  reprobeInterval := by decide
  watchLifetime := by decide
  holdoff := by decide
  weights q := by rw [show Config.defaults.weights.get q = 1 from Quad.get_fill 1 q]; decide

theorem State.reset_loadInv : LoadInv State.reset := fun _ =>
  ⟨fun p => by rw [State.reset_port]; exact PortUnit.untouched_reset Link.idle, rfl, rfl, rfl, rfl, rfl, rfl, rfl, rfl⟩

end Sys2Proof.Machine
end

section
/-! CLAIM. The reset state, POWER_ON_RESET and LOAD_START. -/

-- Under this option Lean elaborates the proofs one after another: each thread of its own would reserve its own memory.
set_option deprecated.oldSectionVars true

open Sys2Proof Sys2Proof.Machine

/-- Settles O4: each invariant by what reset leaves in the blocks that it speaks of. -/
theorem resetSatisfiesTheInvariants : Obligations.ResetSatisfiesTheInvariants :=
  ⟨State.reset_creditInv, tableInv_of_freed rfl, watchInv_of_cleared rfl rfl rfl, State.reset_limitInv,
    Config.defaults_inRange, (serviceInv_iff _).mpr State.reset_serviced, State.reset_loadInv, fun _ => rfl⟩

/-- Settles O5: POWER_ON_RESET puts every block at its reset value but for the links of the ports and the level of the
line; LOAD_START changes the run state and the Loader alone. -/
theorem powerOnResetAndLoadStart : Obligations.PowerOnResetAndLoadStart := by
  refine ⟨fun s => ⟨_, rfl, rfl, rfl, rfl, fun p => ?ports, State.entry_of_freed rfl, rfl, rfl, fun p k => ?watches,
    Quad.get_fill Routing.cleared, rfl, rfl, rfl⟩, fun s => ⟨fun hrun => ⟨_, if_pos hrun, rfl, rfl, rfl, fun p => ?loading,
    rfl⟩, fun hrun => if_neg hrun⟩⟩
  case ports =>
    have hport : ∀ t : State, (t.ports = s.ports.map fun u => { PortUnit.reset with link := u.link.resetting }) →
        t.port p = { PortUnit.reset with link := (s.port p).link.resetting } := by
      intro t ht
      rw [State.port, ht, Quad.get_map]
      rfl
    refine ⟨?_, State.interruptOutput_of_not_opened ?_, State.wakeOutput_of_not_dozing ?_⟩
    all_goals rw [hport _ rfl]
    · exact PortUnit.untouched_reset _
    · exact nofun
    · exact nofun
  case watches =>
    show ((Quad.fill (Quad.fill Watch.emptySlot)).get p).get k = _
    rw [Quad.get_fill, Quad.get_fill]
  case loading => rw [State.statusWord_loading, decide_eq_true rfl]

end

section
/-! SUPPORT. What CLOSE does at every block (R43, R44, R46, R74, R83, R94, R119, R141, R170): one entry after another is
left, and each that the port was alone on is freed. -/

-- Under this option Lean elaborates the proofs one after another: each thread of its own would reserve its own memory.
set_option deprecated.oldSectionVars true

namespace Sys2Proof.Machine

open Sys2Proof

/-! ### One entry (R43, R44) -/

/-- Port p is the one port attached to the entry in slot k. -/
def State.alone (s : State) (p : Port) (k : Nat) : Bool :=
  (s.entry k).any fun e => decide (e.attached = PortSet.single p)

/-- What a port that leaves makes of an entry: FREE when it was alone on it. -/
def Entry.leftBy (e : Entry) (p : Port) : Option Entry :=
  if e.attached = PortSet.single p then none else some (e.without p)

theorem State.alone_iff {s : State} {p : Port} {k : Nat} :
    s.alone p k = true ↔ ∃ e, s.entry k = some e ∧ e.attached = PortSet.single p := by
  simp [State.alone, Option.any_eq_true]

theorem State.alone_eq {s : State} {p : Port} {k : Nat} {e : Entry} (he : s.entry k = some e) :
    s.alone p k = decide (e.attached = PortSet.single p) := by
  rw [State.alone, he, Option.any_some]

theorem State.alone_congr {s t : State} {k : Nat} (h : t.entry k = s.entry k) (p : Port) : t.alone p k = s.alone p k := by
  rw [State.alone, State.alone, h]

theorem PortSet.remove_of_not_mem {a : PortSet} {p : Port} (h : a.get p = false) : PortSet.remove a p = a := by
  refine Quad.ext_get fun q => ?_
  rw [PortSet.get_remove]
  split
  next hq => rw [hq, h]
  · rfl

/-- A port that is not attached to an entry stands in none of its sets, so that it leaves nothing (R47). -/
theorem Entry.Wf.leftBy_of_not_attached {e : Entry} (h : e.Wf) {p : Port} (hp : e.attached.get p = false) :
    e.leftBy p = some e := by
  have hsub : ∀ a : PortSet, (a.get p = true → e.attached.get p = true) → PortSet.remove a p = a := fun a ha =>
    PortSet.remove_of_not_mem (Bool.eq_false_of_not_eq_true fun hmem => by cases hp.symm.trans (ha hmem))
  have hothers : e.attached ≠ PortSet.single p := fun hsingle => by
    rw [hsingle, PortSet.get_single, decide_eq_true rfl] at hp
    cases hp
  rw [Entry.leftBy, if_neg hothers, Entry.without, hsub _ id, hsub _ (h.changed p), hsub _ (h.gaps p)]

section

variable {s : State}

/-- A port leaves slot k in one of three ways: it was not attached, others stay, or it was alone. -/
theorem State.leaveEntry_cases (s : State) (p : Port) (k : Nat) :
    (s.alone p k = false ∧ (∀ e, s.entry k = some e → e.attached.get p = false) ∧ s.leaveEntry p k = s)
    ∨ (∃ e, s.alone p k = false ∧ s.entry k = some e ∧ e.leftBy p = some (e.without p)
        ∧ s.leaveEntry p k = (s.setEntry k (some (e.without p))).emptyWatchesOn p e.address)
    ∨ ∃ e, s.alone p k = true ∧ s.entry k = some e ∧ e.leftBy p = none
        ∧ s.leaveEntry p k = ((s.setEntry k (some (e.without p))).emptyWatchesOn p e.address).freeEntry k := by
  by_cases hleaves : ∃ e, s.entry k = some e ∧ e.attached.get p = true
  · obtain ⟨e, he, hp⟩ := hleaves
    by_cases hlast : e.attached = PortSet.single p
    · exact .inr (.inr ⟨e, (State.alone_eq he).trans (decide_eq_true hlast), he, if_pos hlast,
        State.leaveEntry_freed he hp hlast⟩)
    · exact .inr (.inl ⟨e, (State.alone_eq he).trans (decide_eq_false hlast), he, if_neg hlast,
        State.leaveEntry_kept he hp hlast⟩)
  · have hstranger : ∀ e, s.entry k = some e → e.attached.get p = false := fun e he =>
      Bool.eq_false_of_not_eq_true fun hp => hleaves ⟨e, he, hp⟩
    refine .inl ⟨Bool.eq_false_of_not_eq_true fun halone => ?_, hstranger, State.leaveEntry_of_not_attached hstranger⟩
    obtain ⟨e, he, hsingle⟩ := State.alone_iff.mp halone
    have hp := hstranger e he
    rw [hsingle, PortSet.get_single, decide_eq_true rfl] at hp
    cases hp

theorem State.leaveEntry_entry_eq (h : TableInv s) (p : Port) (k j : Nat) :
    (s.leaveEntry p k).entry j = if j = k then (s.entry k).bind (Entry.leftBy · p) else s.entry j := by
  rcases s.leaveEntry_cases p k with ⟨-, hstranger, hleft⟩ | ⟨e, -, he, hstays, hleft⟩ | ⟨e, -, he, hfreed, hleft⟩
  · rw [hleft]
    split
    next hj =>
      rw [hj]
      cases he : s.entry k with
      | none => rfl
      | some e => exact ((h.wf he).leftBy_of_not_attached (hstranger e he)).symm
    · rfl
  · rw [hleft, he, Option.bind_some, hstays]
    exact s.setEntry_entry_of_some he _ j
  · have htable : (s.leaveEntry p k).table = (s.setEntry k none).table := by
      rw [hleft]
      exact List.set_set ..
    rw [State.entry_congr htable, s.setEntry_entry_of_some he, he, Option.bind_some, hfreed]

theorem State.leaveEntry_exchange_eq (s : State) (p : Port) (k : Nat) :
    (s.leaveEntry p k).exchange = if s.alone p k then s.exchange.map (·.orphanedBy k) else s.exchange := by
  rcases s.leaveEntry_cases p k with ⟨halone, -, hleft⟩ | ⟨e, halone, -, -, hleft⟩ | ⟨e, halone, -, -, hleft⟩
  · rw [hleft, halone]; rfl
  · rw [hleft, halone]; rfl
  · rw [hleft, halone]
    exact congrArg (Option.map · s.exchange) (funext fun x => x.orphanedBy_eq k)

theorem State.leaveEntry_arbiter_eq (s : State) (p : Port) (k : Nat) : (s.leaveEntry p k).arbiter = { s.arbiter with
    serviceList := if s.alone p k then s.arbiter.serviceList.filter fun i => i.slot != k else s.arbiter.serviceList } := by
  rcases s.leaveEntry_cases p k with ⟨halone, -, hleft⟩ | ⟨e, halone, -, -, hleft⟩ | ⟨e, halone, -, -, hleft⟩ <;>
    (rw [hleft, halone]; rfl)

/-- A port with no watch has none to empty (R118). -/
theorem State.leaveEntry_watches_of_empty {p : Port} (h : ∀ j, s.watch p j = Watch.emptySlot) (k : Nat) (q : Port)
    (j : WatchNo) : (s.leaveEntry p k).watch q j = s.watch q j := by
  have hempty : ∀ a, (s.emptyWatchesOn p a).watch q j = s.watch q j := fun a => by
    rw [State.emptyWatchesOn_watch]
    refine if_neg fun ⟨hq, hnames⟩ => ?_
    rw [hq, h] at hnames
    cases hnames
  rcases s.leaveEntry_cases p k with ⟨-, -, hleft⟩ | ⟨e, -, -, -, hleft⟩ | ⟨e, -, -, -, hleft⟩
  · rw [hleft]
  · rw [hleft]; exact hempty e.address
  · rw [hleft]; exact hempty e.address

end

/-! ### Every entry, in slot order (R46) -/

/-- An exchange whose slot is among those freed is orphaned (R45). -/
def Exchange.orphanedIn (x : Exchange) (freed : Nat → Bool) : Exchange := { x with orphan := x.orphan || x.slot.any freed }

theorem Exchange.orphanedIn_of_none (x : Exchange) {freed : Nat → Bool} (h : ∀ k, freed k = false) :
    x.orphanedIn freed = x := by
  have hany : x.slot.any freed = false := by
    cases hslot : x.slot with
    | none => rfl
    | some k => exact h k
  rw [Exchange.orphanedIn, hany, Bool.or_false]

theorem Exchange.orphanedIn_orphanedBy (x : Exchange) (freed : Nat → Bool) (k : Nat) :
    (x.orphanedIn freed).orphanedBy k = x.orphanedIn fun j => freed j || j == k := by
  have hany : (x.slot.any freed || decide (x.slot = some k)) = x.slot.any fun j => freed j || j == k := by
    cases hslot : x.slot with
    | none => rfl
    | some j => simp [beq_eq_decide]
  exact congrArg (fun orphan => { x with orphan := orphan }) ((Bool.or_assoc ..).trans (congrArg (x.orphan || ·) hany))

/-- The slots below n that port p was alone on. -/
def State.freedBelow (s : State) (p : Port) (n k : Nat) : Bool := decide (k < n) && s.alone p k

theorem State.freedBelow_succ (s : State) (p : Port) (n : Nat) :
    s.freedBelow p (n + 1) = fun k => s.freedBelow p n k || (k == n && s.alone p n) := by
  funext k
  unfold State.freedBelow
  rcases Nat.lt_trichotomy k n with hlt | rfl | hgt
  · simp [hlt, Nat.lt_succ_of_lt hlt, Nat.ne_of_lt hlt]
  · simp
  · simp [Nat.not_lt_of_gt hgt, Nat.not_lt_of_ge (Nat.succ_le_of_lt hgt), Nat.ne_of_gt hgt]

/-- From s to t port p has left the entries of the slots below n. -/
structure LeftBelow (s : State) (p : Port) (n : Nat) (t : State) : Prop where
  table : TableInv t
  entry : ∀ k, t.entry k = if k < n then (s.entry k).bind (Entry.leftBy · p) else s.entry k
  exchange : t.exchange = s.exchange.map (·.orphanedIn (s.freedBelow p n))
  arbiter : t.arbiter = { s.arbiter with
    serviceList := s.arbiter.serviceList.filter fun i => !s.freedBelow p n i.slot }
  watch : ∀ q j, t.watch q j = s.watch q j
  rest : { t with exchange := s.exchange, table := s.table, watches := s.watches, arbiter := s.arbiter } = s

section

variable {s t : State} {p : Port}

theorem LeftBelow.zero (h : TableInv s) : LeftBelow s p 0 s where
  table := h
  entry k := (if_neg (Nat.not_lt_zero k)).symm
  exchange := by
    have hnone : ∀ x : Exchange, x.orphanedIn (s.freedBelow p 0) = x := fun x => x.orphanedIn_of_none fun _ => rfl
    simp only [hnone, Option.map_id']
  arbiter := by
    have hnone : ∀ k, s.freedBelow p 0 k = false := fun _ => rfl
    simp only [hnone, Bool.not_false, List.filter_true]
  watch _ _ := rfl
  rest := rfl

/-- The next slot, whose entry none of the slots before it has changed. -/
theorem LeftBelow.succ (hempty : ∀ j, s.watch p j = Watch.emptySlot) {n : Nat} (h : LeftBelow s p n t) :
    LeftBelow s p (n + 1) (t.leaveEntry p n) := by
  have hn : t.entry n = s.entry n := (h.entry n).trans (if_neg (Nat.lt_irrefl n))
  have halone : t.alone p n = s.alone p n := State.alone_congr hn p
  refine ⟨h.table.leaveEntry p n, fun k => ?entry, ?exchange, ?arbiter, fun q j => ?watch, ?rest⟩
  case entry =>
    rw [State.leaveEntry_entry_eq h.table, hn, h.entry]
    rcases Nat.lt_trichotomy k n with hlt | rfl | hgt
    · rw [if_neg (Nat.ne_of_lt hlt), if_pos hlt, if_pos (Nat.lt_succ_of_lt hlt)]
    · rw [if_pos rfl, if_pos (Nat.lt_succ_self k)]
    · rw [if_neg (Nat.ne_of_gt hgt), if_neg (Nat.not_lt_of_gt hgt), if_neg (Nat.not_lt_of_ge (Nat.succ_le_of_lt hgt))]
  case exchange =>
    rw [State.leaveEntry_exchange_eq, halone, h.exchange, State.freedBelow_succ]
    cases s.alone p n with
    | false => simp
    | true => simp [Exchange.orphanedIn_orphanedBy, Function.comp_def]
  case arbiter =>
    rw [State.leaveEntry_arbiter_eq, halone, h.arbiter, State.freedBelow_succ]
    cases s.alone p n with
    | false => simp
    | true => simp [List.filter_filter, Bool.and_comm, bne]
  case watch =>
    exact (State.leaveEntry_watches_of_empty (fun i => (h.watch p i).trans (hempty i)) n q j).trans (h.watch q j)
  case rest =>
    exact (congrArg (fun u : State => { u with
      exchange := s.exchange, table := s.table, watches := s.watches, arbiter := s.arbiter })
      (t.leaveEntry_rest p n)).trans h.rest

theorem State.leaveAll_leftBelow (h : TableInv s) (hempty : ∀ j, s.watch p j = Watch.emptySlot) :
    LeftBelow s p s.table.length (s.leaveAll p) := by
  have hbelow : ∀ n, LeftBelow s p n ((List.range n).foldl (fun t k => t.leaveEntry p k) s) := fun n => by
    induction n with
    | zero => exact .zero h
    | succ n ih =>
      rw [List.range_succ, List.foldl_append]
      exact ih.succ hempty
  exact hbelow _

/-- No slot beyond the table is in use. -/
theorem State.freedBelow_length (s : State) (p : Port) : s.freedBelow p s.table.length = s.alone p := by
  funext k
  by_cases hk : k < s.table.length
  · rw [State.freedBelow, decide_eq_true hk, Bool.true_and]
  · have hfree : s.entry k = none := List.getD_eq_default _ _ (Nat.le_of_not_lt hk)
    rw [State.freedBelow, decide_eq_false hk, Bool.false_and, State.alone, hfree]
    rfl

/-- The table after a port has left every entry. -/
theorem State.leaveAll_entry (h : TableInv s) (hempty : ∀ j, s.watch p j = Watch.emptySlot) (k : Nat) :
    (s.leaveAll p).entry k = (s.entry k).bind (Entry.leftBy · p) := by
  rw [(State.leaveAll_leftBelow h hempty).entry]
  split
  · rfl
  next hk =>
    have hfree : s.entry k = none := List.getD_eq_default _ _ (Nat.le_of_not_lt hk)
    rw [hfree]
    rfl

end

/-! ### The blocks together (R170) -/

theorem Exchange.closedBy_eq (x : Exchange) (p : Port) :
    x.closedBy p = { x with discard := x.discard || decide (x.origin = .port p) } := by
  by_cases horigin : x.origin = .port p
  · rw [Exchange.closedBy, if_pos horigin, decide_eq_true horigin, Bool.or_true]
  · rw [Exchange.closedBy, if_neg horigin, decide_eq_false horigin, Bool.or_false]

end Sys2Proof.Machine
end

section
/-! CLAIM. CLOSE. -/

-- Under this option Lean elaborates the proofs one after another: each thread of its own would reserve its own memory.
set_option deprecated.oldSectionVars true

open Sys2Proof Sys2Proof.Machine

/-- Settles O17: the port, the record, the Arbiter and the watches take the CLOSE first, and then the port leaves every
entry; in CLOSED and CLOSING it is not allowed. -/
theorem closeEmptiesThePort : Obligations.CloseEmptiesThePort := by
  refine fun s p hacts => ⟨fun hstate => ?refused, fun hstate htable => ?taken⟩
  case refused =>
    exact congrArg Host.Outcome.next (State.controlWord_refused hacts .close 0 (PortState.admits_eq_false hstate))
  case taken =>
    refine ⟨(s.send p 0).closePort p,
      congrArg Host.Outcome.next (State.controlWord_taken hacts .close 0 (PortState.admits_eq_true hstate)), ?_⟩
    have hclosed : TableInv ((s.send p 0).closed p) := htable.of_table rfl
    have hwatches : ∀ q j, ((s.send p 0).closed p).watch q j = if q = p then Watch.emptySlot else s.watch q j :=
      fun q j => (s.send p 0).closed_watch p q j
    have hempty : ∀ j, ((s.send p 0).closed p).watch p j = Watch.emptySlot := fun j => (hwatches p j).trans (if_pos rfl)
    have hleft := State.leaveAll_leftBelow hclosed hempty
    have hports : ∀ q, ((s.send p 0).closePort p).port q = ((s.send p 0).closed p).port q := fun q =>
      (congrArg (fun t : State => t.port q) hleft.rest :)
    have hrecord := hleft.exchange
    have harbiter := hleft.arbiter
    rw [State.freedBelow_length] at hrecord harbiter
    refine ⟨?port, fun q hq => ?others, fun j => ?own, fun q j hq => ?watches, ?routing, ?arbiter, fun hidle => ?idle,
      fun x hx => ?exchange, fun k => ?entry, ?rest⟩
    case port =>
      rw [hports, State.closed_port, if_pos rfl, State.send_port_same]
      rfl
    case others =>
      rw [hports, State.closed_port, if_neg hq, State.send, State.updPort_port_ne _ hq]
    case own => exact (hleft.watch p j).trans (hempty j)
    case watches => exact (hleft.watch q j).trans ((hwatches q j).trans (if_neg hq))
    case routing => exact congrArg (Quad.set · p Routing.cleared) (congrArg State.routing hleft.rest :)
    case arbiter =>
      have hkept : ∀ i : ServiceItem, (!s.alone p i.slot) = match s.entry i.slot with
          | some e => decide (e.attached ≠ PortSet.single p)
          | none => true := fun i => by
        rw [State.alone]
        cases s.entry i.slot with
        | none => rfl
        | some e => exact (decide_not ..).symm
      exact harbiter.trans (congrArg (fun kept => { s.arbiter with
        pairing := if s.arbiter.pairing = some p then none else s.arbiter.pairing
        serviceList := s.arbiter.serviceList.filter kept }) (funext hkept))
    case idle =>
      have hnone : ((s.send p 0).closed p).exchange = none := congrArg (Option.map fun y : Exchange => y.closedBy p) hidle
      exact hrecord.trans (congrArg (Option.map _) hnone)
    case exchange =>
      have hsome : ((s.send p 0).closed p).exchange = some (x.closedBy p) :=
        congrArg (Option.map fun y : Exchange => y.closedBy p) hx
      refine ⟨x.orphan || x.slot.any (s.alone p), hrecord.trans ((congrArg (Option.map _) hsome).trans ?_), ?_⟩
      · rw [Exchange.closedBy_eq]
        rfl
      · rw [Bool.or_eq_true, Option.any_eq_true]
        simp only [State.alone_iff]
        exact or_congr_right ⟨fun ⟨k, hslot, e, he, hsingle⟩ => ⟨k, e, hslot, he, hsingle⟩,
          fun ⟨k, e, hslot, he, hsingle⟩ => ⟨k, hslot, e, he, hsingle⟩⟩
    case entry =>
      refine (State.leaveAll_entry hclosed hempty k).trans ?_
      show (s.entry k).bind (Entry.leftBy · p) = _
      cases s.entry k <;> rfl
    case rest =>
      exact (congrArg (fun t : State => { t with
        ports := s.ports, watches := s.watches, routing := s.routing, arbiter := s.arbiter, exchange := s.exchange
        table := s.table }) hleft.rest :)

end

section
/-! SUPPORT. WARM_RESTART (R190): what it leaves of each entry, of each port and of the service list. -/

-- Under this option Lean elaborates the proofs one after another: each thread of its own would reserve its own memory.
set_option deprecated.oldSectionVars true

namespace Sys2Proof.Machine

open Sys2Proof

theorem State.restart_port (s : State) (p : Port) : s.restart.port p = (s.port p).restart := Quad.get_map _ _ _

theorem State.restart_entry (s : State) (k : Nat) :
    s.restart.entry k = (s.entry k).map (Entry.restarted s.loader.params.reprobeInterval) :=
  State.entry_of_table_map rfl k

theorem State.restart_watch (s : State) (p : Port) (k : WatchNo) : s.restart.watch p k = Watch.emptySlot := by
  show ((Quad.fill (Quad.fill Watch.emptySlot)).get p).get k = _
  rw [Quad.get_fill, Quad.get_fill]

/-- The request in flight goes, and its credit returns (R148). -/
theorem PortUnit.dropFlight_eq (u : PortUnit) :
    u.dropFlight = { u with inFlight := none, credits := u.credits + u.inFlight.toList.length } := by
  unfold PortUnit.dropFlight
  split
  next h => rw [h]; exact congrArg (fun r => { u with inFlight := r }) h
  next r h => rw [h]; rfl

/-- A restart leaves of an entry the address and the state (R51), on which its probe depends (R98). -/
theorem probesOf_restarted (interval : Nat) (table : List (Option Entry)) :
    probesOf (table.map (Option.map (Entry.restarted interval))) = probesOf table := by
  rw [probesOf_eq, probesOf_eq, List.length_map]
  refine List.filterMap_congr fun k _ => ?_
  rw [probeOf, probeOf, List.getD_eq_getElem?_getD, List.getD_eq_getElem?_getD, List.getElem?_map]
  cases table[k]? with
  | none => rfl
  | some o => cases o <;> rfl

/-- Neither output of a port is asserted while a restart runs (R180). -/
theorem State.outputs_of_restarting {s : State} (h : s.run = .restarting) (p : Port) :
    s.interruptOutput p = false ∧ s.wakeOutput p = false := by
  simp [State.interruptOutput, State.wakeOutput, h]

end Sys2Proof.Machine
end

section
/-! CLAIM. WARM_RESTART. -/

-- Under this option Lean elaborates the proofs one after another: each thread of its own would reserve its own memory.
set_option deprecated.oldSectionVars true

open Sys2Proof Sys2Proof.Machine

/-- Settles O8: outside a run the command does nothing, and in one every block is put where the restart leaves it. -/
theorem warmRestartClearsAndKeeps : Obligations.WarmRestartClearsAndKeeps := by
  refine fun s => ⟨fun hrun => if_neg hrun, fun hrun => ⟨s.restart, if_pos hrun, rfl, rfl, rfl, rfl, rfl, rfl,
    s.restart_watch, s.restart_entry, probesOf_restarted _ s.table, rfl, rfl, rfl, rfl, rfl, rfl, rfl, rfl, rfl,
    State.outputs_of_restarting rfl, fun p => ?ports⟩⟩
  case ports =>
    have hdropped := (s.port p).dropFlight_eq
    rw [s.restart_port]
    exact ⟨rfl, rfl, (congrArg PortUnit.mask hdropped :), rfl, (congrArg PortUnit.queue hdropped :),
      (s.port p).restart_inFlight, rfl, (congrArg PortUnit.credits hdropped :),
      (congrArg PortUnit.completions hdropped :), rfl, rfl, rfl, rfl⟩

end

section
/-! SUPPORT. Where the part stands, its run state and its Loader: of the commands those of start-up alone change it (R95,
R98, R181-R190). -/

-- Under this option Lean elaborates the proofs one after another: each thread of its own would reserve its own memory.
set_option deprecated.oldSectionVars true

namespace Sys2Proof.Machine

open Sys2Proof

/-- Where the part stands: its run state and its Loader. -/
def State.standing (s : State) : RunState × Loader := (s.run, s.loader)

section

variable {s t : State}

theorem TakenUp.standing (h : TakenUp s t) : t.standing = s.standing := Prod.ext h.run h.loader

theorem OutcomeReaches.standing (h : OutcomeReaches s t) : t.standing = s.standing := (congrArg State.standing h.rest :)

theorem State.standing_ite {a b : State} {c : Prop} [Decidable c] (ha : a.standing = s.standing)
    (hb : b.standing = s.standing) : (if c then a else b).standing = s.standing := by
  split
  · exact ha
  · exact hb

end

section

variable (s : State) (x : Exchange)

/-! ### The end of an exchange (R69-R76) -/

theorem State.outcomeTaken_standing (o : Final) : (s.outcomeTaken x o).standing = s.standing := by
  have hreaches : (((s.recordIdle.tableTakesEnd x o).watchTakesEnd x o).routerTakesEnd x o).standing = s.standing :=
    (((OutcomeReaches.tableTakesEnd _ x o).trans (.watchTakesEnd _ x o)).trans (.routerTakesEnd _ x o)).standing
  unfold State.outcomeTaken
  refine State.standing_ite rfl ?_
  unfold State.attachesTakeEnd
  split
  · split <;> exact hreaches
  · exact hreaches

theorem State.handEnd_standing (o : Final) : (s.handEnd x o).standing = s.standing := by
  rw [s.handEnd_eq]
  unfold State.portTakesEnd State.arbiterTakesEnd
  split <;> split <;> exact s.outcomeTaken_standing x o

theorem State.endExchange_standing (o : Final) : (s.endExchange x o).standing = s.standing :=
  (s.endExchange_takenUp x o).standing.trans (s.handEnd_standing x o)

/-! ### Attempts and replies (R54-R68) -/

theorem State.failAttempt_standing (f : Failure) : (s.failAttempt x f).standing = s.standing := by
  simp only [State.failAttempt]
  split
  · split <;> rfl
  · exact s.endExchange_standing _ _

theorem State.sendDone_standing : s.sendDone.standing = s.standing := by
  unfold State.sendDone
  split
  · rfl
  · split
    · split
      · exact State.standing_ite (s.endExchange_standing _ _) rfl
      · rfl
    · rfl

theorem State.frameBegun_standing : s.frameBegun.standing = s.standing := by
  unfold State.frameBegun
  split
  · rfl
  · split <;> rfl

theorem State.replyExpired_standing : s.replyExpired.standing = s.standing := by
  unfold State.replyExpired
  split
  · rfl
  · exact State.standing_ite (s.failAttempt_standing _ _) rfl

theorem State.holdoffExpired_standing : s.holdoffExpired.standing = s.standing := by
  unfold State.holdoffExpired
  split
  · rfl
  · exact State.standing_ite (s.endExchange_standing _ _) rfl

theorem State.takeReply_standing (reply : Reply) : (s.takeReply x reply).standing = s.standing := by
  rcases s.takeReply_cases x reply with heq | ⟨reason, heq⟩ | ⟨index, values, more, heq⟩ | ⟨o, heq⟩ <;> rw [heq]
  · exact s.failAttempt_standing x _
  · cases reason with
    | busy => exact s.failAttempt_standing x _
    | nopoint | denied | fault => exact s.endExchange_standing x _
  · by_cases hbad : x.BadFragment index values more
    · rw [s.takeAnswer_bad x index values more hbad]
      exact s.failAttempt_standing x _
    · rw [s.takeAnswer_good x index values more hbad]
      exact State.standing_ite rfl (s.endExchange_standing x _)
  · exact s.endExchange_standing x o

theorem State.takeValid_standing (source : Byte) (reply : Reply) :
    (s.takeValid x source reply).standing = s.standing := by
  simp only [State.takeValid]
  split
  · exact s.failAttempt_standing x _
  · split
    · exact (State.takeReply_standing _ x reply).trans (OutcomeReaches.heard s _).standing
    · exact s.takeReply_standing x reply

theorem State.frameEnded_standing (report : FrameReport) : (s.frameEnded report).standing = s.standing := by
  unfold State.frameEnded
  split
  · rfl
  · split
    · split
      · exact s.failAttempt_standing _ _
      · rfl
      · exact s.failAttempt_standing _ _
      · exact s.takeValid_standing _ _ _
    · rfl

/-! ### The field line (R1-R9) -/

theorem State.takeCharacter_standing (data : Byte) (fault : Bool) :
    (s.takeCharacter data fault).standing = s.standing := by
  have hbegun : (if s.line.rx = .hunting then s.frameBegun else s).standing = s.standing :=
    State.standing_ite s.frameBegun_standing rfl
  simp only [State.takeCharacter]
  split
  · exact (State.frameEnded_standing _ _).trans hbegun
  · exact hbegun

theorem State.confirmFrame_standing : s.confirmFrame.standing = s.standing := by
  unfold State.confirmFrame
  split
  · rfl
  · rfl
  · exact State.frameEnded_standing _ _
  · exact State.frameEnded_standing _ _
  · rfl

theorem State.lapse_standing (n : Nat) : (s.lapse n).standing = s.standing :=
  State.standing_ite (State.confirmFrame_standing _) rfl

theorem State.transmit_standing : s.transmit.standing = s.standing := by
  unfold State.transmit
  split
  · split <;> rfl
  · rfl

theorem State.gapEnds_standing : s.gapEnds.standing = s.standing := by
  unfold State.gapEnds
  split
  · split <;> rfl
  · rfl

theorem State.bitTime_standing : s.bitTime.standing = s.standing := by
  unfold State.bitTime
  split
  · split
    · rfl
    · exact State.sendDone_standing _
    · have hreply : (if (s.lapse 1).replyLeft = some 0 then (s.lapse 1).replyExpired else s.lapse 1).standing
          = s.standing :=
        State.standing_ite ((State.replyExpired_standing _).trans (s.lapse_standing 1)) (s.lapse_standing 1)
      refine ((State.transmit_standing _).trans (State.gapEnds_standing _)).trans ?_
      exact State.standing_ite ((State.holdoffExpired_standing _).trans hreply) hreply
  · rfl

/-! ### Control operations (R167-R172) -/

theorem State.closePort_standing (p : Port) : (s.closePort p).standing = s.standing := by
  rw [s.closePort_eq]
  exact List.foldlRecOn (motive := fun t : State => t.standing = s.standing) (List.range (s.closed p).table.length)
    (fun t k => t.leaveEntry p k) rfl fun t ht k _ => (TakenUp.leaveEntry t p k).standing.trans ht

theorem State.takeControlWord_standing (p : Port) (w : Word) : (s.takeControlWord p w).standing = s.standing := by
  simp only [State.takeControlWord]
  split
  · split
    next op _ =>
      refine State.standing_ite ?_ rfl
      cases op with
      | close => exact State.closePort_standing _ p
      | openPort | doze | wakeup | clear | mask | force => rfl
    · rfl
  · exact (TakenUp.voidWord s p).standing

/-! ### Slow time (R35, R95, R110) -/

theorem State.appendReprobe_standing (k : Nat) : (s.appendReprobe k).standing = s.standing := by
  unfold State.appendReprobe
  split
  · rfl
  · split <;> rfl

theorem State.pollEvent_standing (e : PollEvent) : (s.pollEvent e).standing = s.standing := by
  cases e with
  | reprobe k => exact (TakenUp.settle _ true).standing.trans (s.appendReprobe_standing k)
  | cycle => exact (TakenUp.settle _ true).standing

theorem State.pollEvents_standing (n : Nat) (events : List PollEvent) :
    (State.pollEvents n events s).standing = s.standing := by
  induction n generalizing s events with
  | zero => rfl
  | succ n ih =>
    unfold State.pollEvents
    split
    · rfl
    · exact s.pollEvent_standing _
    · exact (ih _ _).trans (State.pollEvent_standing _ _)

theorem State.pollTick_standing : s.pollTick.standing = s.standing := by
  have hticked : s.ticked.standing = s.standing := (congrArg State.standing s.ticked_rest :)
  rw [s.pollTick_eq]
  exact (State.pollEvents_standing _ _ _).trans hticked

end

/-! ### The commands -/

/-- The commands of start-up (Chapter 9). -/
def isStartUp : Instr → Bool
  | .powerOnReset | .loadStart | .loadEnd _ | .warmRestart | .warmRestartEnd => true
  | _ => false

/-- The next state, where the outcome is one, satisfies P. -/
def Leaves (P : State → Prop) (o : Host.Outcome State Fault Refusal) : Prop := ∀ t, o = .next t → P t

section

variable {P : State → Prop}

theorem Leaves.next {t : State} (h : P t) : Leaves P (.next t) := by
  intro u hu
  cases hu
  exact h

theorem Leaves.ite {c : Prop} [Decidable c] {a b : Host.Outcome State Fault Refusal} (ha : c → Leaves P a)
    (hb : Leaves P b) : Leaves P (if c then a else b) := by
  split
  next hc => exact ha hc
  · exact hb

end

/-- The next state, where the outcome is one, stands where s stands. -/
def KeepsStanding (s : State) (o : Host.Outcome State Fault Refusal) : Prop := Leaves (·.standing = s.standing) o

section

variable {s : State}

theorem KeepsStanding.next {t : State} (h : t.standing = s.standing) : KeepsStanding s (.next t) :=
  Leaves.next (P := (·.standing = s.standing)) h

theorem KeepsStanding.stays (s : State) : KeepsStanding s (.next s) := .next rfl

theorem KeepsStanding.ite {c : Prop} [Decidable c] {a b : Host.Outcome State Fault Refusal} (ha : KeepsStanding s a)
    (hb : KeepsStanding s b) : KeepsStanding s (if c then a else b) := Leaves.ite (fun _ => ha) hb

theorem execReprobeDue_keepsStanding (s : State) (slot : Fin 32) : KeepsStanding s (execReprobeDue slot s) := by
  unfold execReprobeDue
  split
  · exact .ite (.next ((TakenUp.settle _ true).standing.trans (State.appendReprobe_standing _ _))) (.stays s)
  · exact .stays s

/-- Of the commands, those of start-up alone move the run or the Loader. -/
theorem exec_keepsStanding (s : State) (c : Instr) (hc : isStartUp c = false) : KeepsStanding s (exec c s) := by
  cases c with
  | powerOnReset | loadStart | loadEnd | warmRestart | warmRestartEnd => cases hc
  | channelOperation p op => exact .ite (.next rfl) (.stays s)
  | transactionBegin p => exact .ite (.stays s) (.next rfl)
  | transactionEnd p => exact .next rfl
  | submitWord p w => exact .next (TakenUp.submitWord s p w).standing
  | takeCompletion p => exact .next (TakenUp.takeWord s p _ _).standing
  | takeReport p => exact .next (TakenUp.takeWord s p _ _).standing
  | statusRead p full => exact .ite (.next rfl) (.stays s)
  | openPort p | doze p | wakeup p | close p | clear p flags | mask p flags | force p flags
  | invalidControlOperation p w => exact .next (s.takeControlWord_standing p _)
  | read p | write p | cwrite p | attach p | detach p | release p | filterMode p | filterListAdd p
  | filterListRemove p | filterHashSet p | filterHashClear p | filterClearAll p | wakeset p | queryStation p
  | queryChanges p | queryWatches p | queryLine p | mark p | unassignedKind p =>
    exact .next (TakenUp.submitWords s p _).standing
  | transmitStart =>
    show KeepsStanding s (execTransmitStart s)
    unfold execTransmitStart
    split
    · exact .next ((State.transmit_standing _).trans (s.lapse_standing _))
    · exact .stays s
  | sendComplete =>
    show KeepsStanding s (execSendComplete s)
    unfold execSendComplete
    split
    · exact .next (State.sendDone_standing _)
    · exact .stays s
  | characterReceived data parity stop =>
    exact .ite (.next rfl) (.ite (.stays s) (.next (State.takeCharacter_standing _ _ _)))
  | frameConfirmation => exact .ite (.next (s.lapse_standing _)) (.stays s)
  | replyTimerExpiry =>
    show KeepsStanding s (execReplyTimerExpiry s)
    unfold execReplyTimerExpiry
    split
    · exact .next ((State.replyExpired_standing _).trans (s.lapse_standing _))
    · exact .stays s
  | retryGapEnd => exact .ite (.next ((State.gapEnds_standing _).trans (s.lapse_standing _))) (.stays s)
  | holdoffExpiry =>
    show KeepsStanding s (execHoldoffExpiry s)
    unfold execHoldoffExpiry
    split
    · exact .next ((State.holdoffExpired_standing _).trans (s.lapse_standing _))
    · exact .stays s
  | tick =>
    show KeepsStanding s (execTick s)
    unfold execTick
    split
    · exact .stays s
    · exact .ite (.next s.pollTick_standing) (.next rfl)
  | pollTick =>
    show KeepsStanding s (execPollTick s)
    unfold execPollTick
    split
    · exact .stays s
    · exact .next s.pollTick_standing
  | reprobeDue slot => exact execReprobeDue_keepsStanding s slot
  | watchExpired p k => exact .ite (.next (TakenUp.expireWatch s p k).standing) (.stays s)
  | lineReturnsHigh => exact .next rfl

end

end Sys2Proof.Machine
end

section
/-! SUPPORT. The part while PORST is asserted and while the load runs (R182): each command but those of start-up leaves it
held, with at most a transaction of a port or the level of the line changed. -/

-- Under this option Lean elaborates the proofs one after another: each thread of its own would reserve its own memory.
set_option deprecated.oldSectionVars true

namespace Sys2Proof.Machine

open Sys2Proof

/-- The part before the load has ended, with all that is held as power-on reset left it (R181, R182). -/
structure Held (s : State) : Prop where
  run : s.run = .powerOn ∨ s.run = .loading
  ports : ∀ p, (s.port p).untouched
  table : s.table = List.replicate Config.stationSlots none
  exchange : s.exchange = none
  arbiter : s.arbiter = Arbiter.reset
  watches : s.watches = Quad.fill (Quad.fill Watch.emptySlot)
  routing : s.routing = Quad.fill Routing.cleared
  tx : s.line.tx = .released
  rx : s.line.rx = .closed
  idle : s.line.idle = 0

theorem LoadInv.held {s : State} (h : LoadInv s) (hrun : s.run = .powerOn ∨ s.run = .loading) : Held s := by
  obtain ⟨hports, htable, hexchange, harbiter, hwatches, hrouting, htx, hrx, hidle⟩ := h hrun
  exact ⟨hrun, hports, htable, hexchange, harbiter, hwatches, hrouting, htx, hrx, hidle⟩

theorem Held.loadInv {s : State} (h : Held s) : LoadInv s := fun _ =>
  ⟨h.ports, h.table, h.exchange, h.arbiter, h.watches, h.routing, h.tx, h.rx, h.idle⟩

/-- A part that runs or restarts is past the load. -/
theorem loadInv_of_run {s : State} (h : s.run = .running ∨ s.run = .restarting) : LoadInv s := by
  rintro (hrun | hrun) <;> rw [hrun] at h <;> exact absurd h (by decide)

/-- An untouched port is as reset left it but for its link. -/
theorem PortUnit.untouched.eq {u : PortUnit} (h : u.untouched) : u = { PortUnit.reset with link := u.link } :=
  congrArg (fun v : PortUnit => { v with link := u.link }) h

section

variable {s : State} (h : Held s)

include h

theorem Held.not_running : s.run ≠ .running := by
  rcases h.run with hrun | hrun <;> rw [hrun] <;> decide

theorem Held.entry (k : Nat) : s.entry k = none := State.entry_of_freed h.table k

theorem Held.no_record {P : Exchange → Prop} (x : Exchange) (hx : s.exchange = some x) : P x := by
  cases h.exchange.symm.trans hx

/-! ### Transactions (R142) -/

/-- A change of one port that leaves an untouched port untouched. -/
theorem Held.updPort (p : Port) {f : PortUnit → PortUnit} (hf : ∀ u : PortUnit, u.untouched → (f u).untouched) :
    Held (s.updPort p f) := by
  refine ⟨h.run, fun q => ?_, h.table, h.exchange, h.arbiter, h.watches, h.routing, h.tx, h.rx, h.idle⟩
  rw [State.updPort_port]
  split
  · exact hf _ (h.ports p)
  · exact h.ports q

theorem Held.send (p : Port) (w : Word) : Held (s.send p w) := h.updPort p fun _ hu => hu

theorem Held.voidWord (p : Port) : Held (s.voidWord p) := by
  unfold State.voidWord
  split
  · exact h.send p 0
  · exact h

/-- No channel but STATUS acts while the part is held (R142). -/
theorem Held.acts {c : Channel} (hc : c ≠ .status) (p : Port) : s.acts p c = false := by
  simp [State.acts, h.not_running, hc]

theorem Held.submitWord (p : Port) (w : Word) : Held (s.submitWord p w) := by
  rw [s.submitWord_void p w (h.acts (c := .submit) nofun p)]
  exact h.voidWord p

theorem Held.submitWords (p : Port) (ws : List Word) : Held (s.submitWords p ws) :=
  List.foldlRecOn (motive := Held) ws _ h fun _ ht w _ => ht.submitWord p w

theorem Held.takeWord {c : Channel} (hc : c ≠ .status) (p : Port) (take : PortUnit → PortUnit × Word) :
    Held (s.takeWord p c take) := by
  rw [State.takeWord, h.acts hc p]
  exact h.voidWord p

theorem Held.takeControlWord (p : Port) (w : Word) : Held (s.takeControlWord p w) := by
  rw [State.takeControlWord, h.acts (c := .control) nofun p]
  exact h.voidWord p

end

/-! ### The commands -/

section

variable {s : State}

theorem Held.next (h : Held s) : Leaves Held (.next s) := Leaves.next h

/-- A command that comes to nothing on a held part. -/
theorem Held.passed_over (h : Held s) {o : Host.Outcome State Fault Refusal} (ho : o = .next s) : Leaves Held o :=
  ho ▸ h.next

theorem exec_leavesHeld (h : Held s) (c : Instr) (hc : isStartUp c = false) : Leaves Held (exec c s) := by
  cases c with
  | powerOnReset | loadStart | loadEnd | warmRestart | warmRestartEnd => cases hc
  | channelOperation p op => exact .ite (fun _ => Leaves.next (h.updPort p fun _ hu => hu)) h.next
  | transactionBegin p => exact .ite (fun _ => h.next) (Leaves.next (h.updPort p fun _ hu => hu))
  | transactionEnd p => exact Leaves.next (h.updPort p fun _ hu => by rw [hu.eq]; rfl)
  | submitWord p w => exact (h.submitWord p w).next
  | takeCompletion p => exact (h.takeWord (c := .takeCompletion) nofun p _).next
  | takeReport p => exact (h.takeWord (c := .takeReport) nofun p _).next
  | statusRead p full => exact .ite (fun _ => Leaves.next ((h.send p _).updPort p fun _ hu => by rw [hu.eq]; rfl)) h.next
  | openPort p | doze p | wakeup p | close p | clear p flags | mask p flags | force p flags
  | invalidControlOperation p w => exact (h.takeControlWord p _).next
  | read p | write p | cwrite p | attach p | detach p | release p | filterMode p | filterListAdd p
  | filterListRemove p | filterHashSet p | filterHashClear p | filterClearAll p | wakeset p | queryStation p
  | queryChanges p | queryWatches p | queryLine p | mark p | unassignedKind p => exact (h.submitWords p _).next
  | transmitStart => exact h.passed_over (execTransmitStart_of_none s (by simp [h.tx]))
  | sendComplete => exact h.passed_over (by rw [exec_sendComplete, execSendComplete, h.tx])
  | characterReceived data parity stop =>
    rw [exec_characterReceived, execCharacterReceived_closed data parity stop s h.rx]
    exact Held.next ⟨h.run, h.ports, h.table, h.exchange, h.arbiter, h.watches, h.routing, h.tx, h.rx, h.idle⟩
  | frameConfirmation => exact h.passed_over (execFrameConfirmation_of_none s (by rw [h.rx]; rfl))
  | replyTimerExpiry => exact h.passed_over (execReplyTimerExpiry_elsewhere s h.no_record)
  | retryGapEnd => exact h.passed_over (execRetryGapEnd_elsewhere s h.no_record)
  | holdoffExpiry => exact h.passed_over (execHoldoffExpiry_elsewhere s h.no_record)
  | tick => exact h.passed_over (exec_tick_stopped s (by rw [h.arbiter]; rfl))
  | pollTick => exact h.passed_over (by show execPollTick s = _; rw [execPollTick, h.arbiter]; rfl)
  | reprobeDue slot => exact h.passed_over (by show execReprobeDue slot s = _; rw [execReprobeDue, h.entry])
  | watchExpired p k => exact h.passed_over (if_neg h.not_running)
  | lineReturnsHigh =>
    exact Held.next ⟨h.run, h.ports, h.table, h.exchange, h.arbiter, h.watches, h.routing, h.tx, h.rx, rfl⟩

end

end Sys2Proof.Machine
end

section
/-! SUPPORT. The commands of start-up: the part is held until the load ends (R182), and each judgement of the load leaves
the line parameters in their ranges (R186). -/

-- Under this option Lean elaborates the proofs one after another: each thread of its own would reserve its own memory.
set_option deprecated.oldSectionVars true

namespace Sys2Proof.Machine

open Sys2Proof

/-! ### The line parameters (R185, R186) -/

/-- A settled field is in its range, since its default is (R186). -/
theorem settleField_inRange {lo hi default : Nat} (h : lo ≤ default ∧ default ≤ hi) (value : Nat) :
    lo ≤ settleField lo hi default value ∧ settleField lo hi default value ≤ hi := by
  unfold settleField
  split
  next hvalue => exact hvalue
  · exact h

theorem settledParams_inRange (image : List Byte) : ParamsInRange (settledParams image) where
  rateCode := (settleField_inRange (by decide) _).2
  replyTimeout := settleField_inRange (by decide) _
  retryLimit := (settleField_inRange (by decide) _).2
  failureThreshold := settleField_inRange (by decide) _
  pollPeriod := settleField_inRange (by decide) _
  reprobeInterval := settleField_inRange (by decide) _
  watchLifetime := Nat.le_of_lt_succ (BitVec.isLt _)
  holdoff := (settleField_inRange (by decide) _).2
  weights := Quad.forall_fin.mpr ⟨settleField_inRange (by decide) _, settleField_inRange (by decide) _,
    settleField_inRange (by decide) _, settleField_inRange (by decide) _⟩

theorem judge_inRange (reading : Reading) : ParamsInRange (judge reading).params := by
  unfold judge
  split
  · exact Config.defaults_inRange
  · split
    · exact Config.defaults_inRange
    · split
      · exact Config.defaults_inRange
      · exact settledParams_inRange _

/-! ### The pre-attach entries (R30) -/

/-- A pre-attach reaches the table and the service list alone. -/
theorem State.preAttach_rest (s : State) (kept : Byte × PortSet) :
    { s.preAttach kept with table := s.table, arbiter := s.arbiter } = s := by
  unfold State.preAttach
  split <;> rfl

theorem State.preAttaches_rest (s : State) (kept : List (Byte × PortSet)) :
    { kept.foldl State.preAttach s with table := s.table, arbiter := s.arbiter } = s :=
  List.foldlRecOn (motive := fun t : State => { t with table := s.table, arbiter := s.arbiter } = s) kept
    State.preAttach rfl fun t ht k _ =>
      (congrArg (fun u : State => { u with table := s.table, arbiter := s.arbiter }) (t.preAttach_rest k)).trans ht

theorem State.applyLoad_run (s : State) (image : List Byte) (bus : List BusOp) (j : Judgement) :
    (s.applyLoad image bus j).run = .running := rfl

theorem State.applyLoad_loader (s : State) (image : List Byte) (bus : List BusOp) (j : Judgement) :
    (s.applyLoad image bus j).loader = Loader.finished image bus j :=
  (congrArg State.loader (State.preAttaches_rest { s with loader := Loader.finished image bus j } j.kept) :)

/-! ### The commands of start-up -/

section

variable {s t : State}

theorem exec_loadEnd (h : s.run = .loading) (lines : ConfigLines) : exec (.loadEnd lines) s
    = .next ((s.applyLoad (readMemory lines).2.image (readMemory lines).1 (judge (readMemory lines).2)).settle true) :=
  if_pos h

/-- A command of start-up leaves the part held, or past the load (R182, R188, R190). -/
theorem startUp_leavesLoadInv (h : LoadInv s) {c : Instr} (hc : isStartUp c = true) : Leaves LoadInv (exec c s) := by
  cases c with
  | powerOnReset =>
    refine Leaves.next fun _ => ⟨fun p => ?_, rfl, rfl, rfl, rfl, rfl, rfl, rfl, rfl⟩
    show PortUnit.untouched (Quad.get (s.ports.map _) p)
    rw [Quad.get_map]
    exact PortUnit.untouched_reset _
  | loadStart => exact .ite (fun hrun => Leaves.next fun _ => h (.inl hrun)) (Leaves.next h)
  | loadEnd lines =>
    exact .ite (fun _ => Leaves.next (loadInv_of_run (.inl (TakenUp.settle _ true).run))) (Leaves.next h)
  | warmRestart => exact .ite (fun _ => Leaves.next (loadInv_of_run (.inr rfl))) (Leaves.next h)
  | warmRestartEnd =>
    exact .ite (fun _ => Leaves.next (loadInv_of_run (.inl (TakenUp.settle _ true).run))) (Leaves.next h)
  | _ => cases hc

theorem ParamInv.of_loader (h : ParamInv s) (hloader : t.loader = s.loader) : ParamInv t := by
  rw [ParamInv, hloader]
  exact h

/-- A command of start-up leaves the line parameters, resets them, or settles them (R185, R186). -/
theorem startUp_leavesParamInv (h : ParamInv s) {c : Instr} (hc : isStartUp c = true) :
    Leaves ParamInv (exec c s) := by
  cases c with
  | powerOnReset => exact Leaves.next Config.defaults_inRange
  | loadStart => exact .ite (fun _ => Leaves.next (P := ParamInv) h) (Leaves.next h)
  | loadEnd lines =>
    have hloaded : ParamInv (s.applyLoad (readMemory lines).2.image (readMemory lines).1 (judge (readMemory lines).2)) := by
      rw [ParamInv, State.applyLoad_loader]
      exact judge_inRange _
    exact .ite (fun _ => Leaves.next (hloaded.of_loader (TakenUp.settle _ true).loader)) (Leaves.next h)
  | warmRestart => exact .ite (fun _ => Leaves.next (P := ParamInv) h) (Leaves.next h)
  | warmRestartEnd =>
    exact .ite (fun _ => Leaves.next (h.of_loader (TakenUp.settle _ true).loader)) (Leaves.next h)
  | _ => cases hc

/-! ### Every command, and a bit time -/

theorem loadInv_of_standing (h : t.standing = s.standing) (hrun : s.run = .running ∨ s.run = .restarting) :
    LoadInv t := by
  have hsame : t.run = s.run := congrArg Prod.fst h
  exact loadInv_of_run (hsame ▸ hrun)

theorem ParamInv.of_standing (hs : ParamInv s) (h : t.standing = s.standing) : ParamInv t :=
  hs.of_loader (congrArg Prod.snd h)

theorem RunState.held_or_past (run : RunState) :
    (run = .powerOn ∨ run = .loading) ∨ run = .running ∨ run = .restarting := by
  cases run <;> decide

theorem exec_loadInv (h : LoadInv s) {c : Instr} (ht : exec c s = .next t) : LoadInv t := by
  cases hc : isStartUp c with
  | true => exact startUp_leavesLoadInv h hc t ht
  | false =>
    rcases s.run.held_or_past with hrun | hrun
    · exact (exec_leavesHeld (h.held hrun) c hc t ht).loadInv
    · exact loadInv_of_standing (exec_keepsStanding s c hc t ht) hrun

theorem exec_paramInv (h : ParamInv s) {c : Instr} (ht : exec c s = .next t) : ParamInv t := by
  cases hc : isStartUp c with
  | true => exact startUp_leavesParamInv h hc t ht
  | false => exact h.of_standing (exec_keepsStanding s c hc t ht)

theorem bitTime_loadInv (h : LoadInv s) : LoadInv s.bitTime := by
  rcases s.run.held_or_past with hrun | hrun
  · rw [s.bitTime_of_not_running (h.held hrun).not_running]
    exact h
  · exact loadInv_of_standing s.bitTime_standing hrun

end

end Sys2Proof.Machine
end

section
/-! CLAIM. The part before the load ends, and the line parameters. -/

-- Under this option Lean elaborates the proofs one after another: each thread of its own would reserve its own memory.
set_option deprecated.oldSectionVars true

open Sys2Proof Sys2Proof.Machine

/-- Settles O58: a bit time and every command, those of start-up and the others, keep each invariant. -/
theorem thePartIsHeldUntilTheLoadEnds : Obligations.ThePartIsHeldUntilTheLoadEnds := by
  intro s t ht
  unfold step at ht
  split at ht
  · cases ht
    exact ⟨bitTime_loadInv, fun h => h.of_standing s.bitTime_standing⟩
  next c rest _ => exact ⟨fun h => exec_loadInv (s := { s with pending := rest }) h ht,
      fun h => exec_paramInv (s := { s with pending := rest }) h ht⟩

end

section
/-! SUPPORT. The pre-attach entries as settled (R187): which count, and what each leaves of the kept list. -/

-- Under this option Lean elaborates the proofs one after another: each thread of its own would reserve its own memory.
set_option deprecated.oldSectionVars true

namespace Sys2Proof.Machine

open Sys2Proof

/-! ### One entry -/

/-- An entry of the image is in use (R187). -/
def usedEntry (e : Byte × PortSet) : Bool := e.1 != 0 || !PortSet.isEmpty e.2

/-- An entry of the image counts: it names a station and a port that is open at start (R187). -/
def countsEntry (openSet : PortSet) (e : Byte × PortSet) : Bool :=
  stationAddress e.1 && decide (∃ p : Port, e.2.get p = true ∧ openSet.get p = true)

@[simp] theorem PortSet.get_inter (a b : PortSet) (p : Port) : (PortSet.inter a b).get p = (a.get p && b.get p) :=
  Quad.get_zip _ _ _ _

theorem countsEntry_iff (openSet : PortSet) (e : Byte × PortSet) : countsEntry openSet e = true
    ↔ stationAddress e.1 = true ∧ PortSet.isEmpty (PortSet.inter e.2 openSet) = false := by
  simp [countsEntry, PortSet.isEmpty_false_iff]

theorem usedEntry_of_counts {openSet : PortSet} {e : Byte × PortSet} (h : countsEntry openSet e = true) :
    usedEntry e = true := by
  obtain ⟨haddress, -⟩ := (countsEntry_iff openSet e).mp h
  have hne : e.1 ≠ 0 := fun h0 => by rw [h0] at haddress; exact absurd haddress (by decide)
  rw [usedEntry, bne_iff_ne.mpr hne, Bool.true_or]

/-- What one entry does to the kept list and the mark (R187): one that counts is merged or kept, and any other that is in
use is dropped. -/
theorem takePreAttach_eq (openSet : PortSet) (acc : List (Byte × PortSet) × Bool) (e : Byte × PortSet) :
    takePreAttach openSet acc e
      = if countsEntry openSet e = true then
          if e.1 ∈ acc.1.map (·.1) then (mergeKept acc.1 e.1 (PortSet.inter e.2 openSet), true)
          else (acc.1 ++ [(e.1, PortSet.inter e.2 openSet)], acc.2)
        else (acc.1, acc.2 || usedEntry e) := by
  have hany : (acc.1.any fun k => k.1 == e.1) = true ↔ e.1 ∈ acc.1.map (·.1) := by simp
  have hunused : (e.1 = 0 ∧ PortSet.isEmpty e.2 = true) ↔ usedEntry e = false := by simp [usedEntry]
  have hdropped : (stationAddress e.1 = false ∨ PortSet.isEmpty (PortSet.inter e.2 openSet) = true)
      ↔ ¬ countsEntry openSet e = true := by
    rw [countsEntry_iff, not_and_or, Bool.not_eq_true, Bool.not_eq_false]
  simp only [takePreAttach, hany, hunused, hdropped]
  by_cases hcounts : countsEntry openSet e = true
  · simp [hcounts, usedEntry_of_counts hcounts]
  · cases hused : usedEntry e <;> simp [hcounts]

@[simp] theorem mergeKept_addresses (kept : List (Byte × PortSet)) (a : Byte) (ports : PortSet) :
    (mergeKept kept a ports).map (·.1) = kept.map (·.1) := by
  rw [mergeKept, List.map_map]
  refine List.map_congr_left fun k _ => ?_
  show (if k.1 = a then _ else k : Byte × PortSet).1 = k.1
  split <;> rfl

/-! ### All entries -/

/-- What the entries of the image have left of the kept list and the mark (R187). -/
structure Settles (openSet : PortSet) (entries : List (Byte × PortSet)) (acc : List (Byte × PortSet) × Bool) : Prop where
  length : acc.1.length ≤ (entries.filter usedEntry).length
  adjusted : acc.2 = true ↔ acc.1.length < (entries.filter usedEntry).length
  address : ∀ a, a ∈ acc.1.map (·.1) ↔ a ∈ (entries.filter (countsEntry openSet)).map (·.1)
  order : (acc.1.map (·.1)).Pairwise fun a b =>
    ((entries.filter (countsEntry openSet)).map (·.1)).idxOf a < ((entries.filter (countsEntry openSet)).map (·.1)).idxOf b
  ports : ∀ k ∈ acc.1, ∀ p, k.2.get p = true
    ↔ ∃ e ∈ entries.filter (countsEntry openSet), e.1 = k.1 ∧ e.2.get p = true ∧ openSet.get p = true

section

variable {openSet : PortSet} {entries : List (Byte × PortSet)} {acc : List (Byte × PortSet) × Bool}
  (h : Settles openSet entries acc) (e : Byte × PortSet)

include h

/-- The addresses stay in the order of their first appearance when entries follow. -/
theorem Settles.order_append (more : List Byte) : (acc.1.map (·.1)).Pairwise fun a b =>
    ((entries.filter (countsEntry openSet)).map (·.1) ++ more).idxOf a
      < ((entries.filter (countsEntry openSet)).map (·.1) ++ more).idxOf b := by
  refine h.order.imp_of_mem fun ha hb hlt => ?_
  rwa [List.idxOf_append_of_mem ((h.address _).mp ha), List.idxOf_append_of_mem ((h.address _).mp hb)]

/-- An entry that does not count is dropped, with the mark if it is in use. -/
theorem Settles.drop (hcounts : ¬ countsEntry openSet e = true) :
    Settles openSet (entries ++ [e]) (acc.1, acc.2 || usedEntry e) := by
  have hcounting : (entries ++ [e]).filter (countsEntry openSet) = entries.filter (countsEntry openSet) := by
    simp [List.filter_append, hcounts]
  have hlength := h.length
  refine ⟨?_, ?_, by rw [hcounting]; exact h.address, by rw [hcounting]; exact h.order, by rw [hcounting]; exact h.ports⟩
  · rw [List.filter_append, List.length_append]
    exact Nat.le_add_right_of_le hlength
  · rw [Bool.or_eq_true, h.adjusted, List.filter_append, List.length_append]
    cases hused : usedEntry e with
    | false => simp [hused]
    | true => simpa [hused] using Nat.lt_succ_of_le hlength

/-- An entry that counts, of an address already kept, is merged. -/
theorem Settles.merge (hcounts : countsEntry openSet e = true) (hkept : e.1 ∈ acc.1.map (·.1)) :
    Settles openSet (entries ++ [e]) (mergeKept acc.1 e.1 (PortSet.inter e.2 openSet), true) := by
  have hcounting : (entries ++ [e]).filter (countsEntry openSet) = entries.filter (countsEntry openSet) ++ [e] := by
    simp [List.filter_append, hcounts]
  have hused : ((entries ++ [e]).filter usedEntry).length = (entries.filter usedEntry).length + 1 := by
    simp [List.filter_append, usedEntry_of_counts hcounts]
  have hlength : (mergeKept acc.1 e.1 (PortSet.inter e.2 openSet)).length ≤ (entries.filter usedEntry).length := by
    rw [mergeKept, List.length_map]
    exact h.length
  refine ⟨?_, ?_, fun a => ?_, ?_, fun k hk p => ?_⟩
  · exact hused ▸ Nat.le_succ_of_le hlength
  · exact iff_of_true rfl (hused ▸ Nat.lt_succ_of_le hlength)
  · rw [mergeKept_addresses, hcounting, List.map_append, List.mem_append, h.address, List.map_singleton,
      List.mem_singleton]
    exact ⟨.inl, fun ha => ha.elim id fun ha => ha ▸ (h.address _).mp hkept⟩
  · rw [mergeKept_addresses, hcounting, List.map_append]
    exact h.order_append _
  · obtain ⟨k, hold, rfl⟩ := List.mem_map.mp hk
    have hports := h.ports k hold p
    rw [hcounting]
    simp only [List.mem_append, List.mem_singleton, or_and_right, exists_or, exists_eq_left]
    split
    next hsame =>
      rw [PortSet.get_union, PortSet.get_inter, Bool.or_eq_true, Bool.and_eq_true, hports]
      exact or_congr_right (and_iff_right hsame.symm).symm
    next hother =>
      rw [hports]
      exact (or_iff_left fun hsame => hother hsame.1.symm).symm

/-- An entry that counts, of an address not yet kept, is kept behind the others. -/
theorem Settles.keep (hcounts : countsEntry openSet e = true) (hnew : e.1 ∉ acc.1.map (·.1)) :
    Settles openSet (entries ++ [e]) (acc.1 ++ [(e.1, PortSet.inter e.2 openSet)], acc.2) := by
  have hcounting : (entries ++ [e]).filter (countsEntry openSet) = entries.filter (countsEntry openSet) ++ [e] := by
    simp [List.filter_append, hcounts]
  have hused : ((entries ++ [e]).filter usedEntry).length = (entries.filter usedEntry).length + 1 := by
    simp [List.filter_append, usedEntry_of_counts hcounts]
  have hunseen : e.1 ∉ (entries.filter (countsEntry openSet)).map (·.1) := fun ha => hnew ((h.address _).mpr ha)
  refine ⟨?_, ?_, fun a => ?_, ?_, fun k hk p => ?_⟩
  · rw [hused, List.length_append]
    exact Nat.add_le_add_right h.length 1
  · rw [hused, List.length_append, h.adjusted]
    exact Nat.succ_lt_succ_iff.symm
  · rw [hcounting, List.map_append, List.map_append, List.mem_append, List.mem_append, h.address]
    rfl
  · rw [hcounting, List.map_append, List.map_append, List.pairwise_append]
    refine ⟨h.order_append _, List.pairwise_singleton _ _, fun a ha b hb => ?_⟩
    rw [List.mem_singleton.mp hb]
    rw [h.address] at ha
    rw [List.idxOf_append_of_mem ha]
    refine Nat.lt_of_lt_of_le (List.idxOf_lt_length_of_mem ha) ?_
    show _ ≤ List.idxOf e.1 _
    rw [List.idxOf_append_of_notMem hunseen]
    exact Nat.le_add_right _ _
  · rw [hcounting]
    simp only [List.mem_append, List.mem_singleton, or_and_right, exists_or, exists_eq_left]
    rcases List.mem_append.mp hk with hold | hlast
    · have hother : e.1 ≠ k.1 := fun hsame => hnew (hsame ▸ List.mem_map_of_mem hold)
      rw [h.ports k hold p]
      exact (or_iff_left fun hsame => hother hsame.1).symm
    · rw [List.mem_singleton.mp hlast, PortSet.get_inter, Bool.and_eq_true]
      refine ⟨fun hp => .inr ⟨rfl, hp⟩, fun hp => hp.elim (fun ⟨f, hf, hsame, _⟩ => ?_) fun hp => hp.2⟩
      exact absurd (List.mem_map.mpr ⟨f, hf, hsame⟩) hunseen

theorem Settles.take : Settles openSet (entries ++ [e]) (takePreAttach openSet acc e) := by
  rw [takePreAttach_eq]
  split
  next hcounts =>
    split
    next hkept => exact h.merge e hcounts hkept
    next hnew => exact h.keep e hcounts hnew
  next hcounts => exact h.drop e hcounts

end

/-- Taken one after another, the entries leave the kept list of R187. -/
theorem settlePreAttach_settles (openSet : PortSet) (entries : List (Byte × PortSet)) :
    Settles openSet entries (settlePreAttach openSet entries) := by
  induction entries using List.reverseRecOn with
  | nil => exact ⟨Nat.le_refl _, iff_of_false nofun (Nat.lt_irrefl _), fun _ => Iff.rfl, .nil, nofun⟩
  | append_singleton entries e ih =>
    rw [settlePreAttach, List.foldl_concat]
    exact ih.take e

theorem Settles.nodup {openSet : PortSet} {entries : List (Byte × PortSet)} {acc : List (Byte × PortSet) × Bool}
    (h : Settles openSet entries acc) : (acc.1.map (·.1)).Nodup :=
  h.order.imp fun {a b} hlt (heq : a = b) => by rw [heq] at hlt; exact Nat.lt_irrefl _ hlt

/-! ### The entries of an image (R197) -/

theorem preAttachEntries_length (image : List Byte) : (preAttachEntries image).length = 8 := by
  rw [preAttachEntries, List.length_map, List.length_range]

theorem preAttachEntries_get (image : List Byte) {k : Nat} (hk : k < 8) : (preAttachEntries image)[k]?
    = some (image.getD (20 + 2 * k) 0, PortSet.ofByte (image.getD (21 + 2 * k) 0)) := by
  rw [preAttachEntries, List.getElem?_map, List.getElem?_range hk]
  rfl

/-- No more than the eight entries of the image are kept (R187, R197). -/
theorem judge_kept (reading : Reading) : (judge reading).kept.length ≤ 8 ∧ ((judge reading).kept.map (·.1)).Nodup := by
  have hnone : ([] : List (Byte × PortSet)).length ≤ 8 ∧ (([] : List (Byte × PortSet)).map (·.1)).Nodup :=
    ⟨Nat.zero_le _, .nil⟩
  unfold judge
  split
  · exact hnone
  next image =>
    split
    · exact hnone
    · split
      · exact hnone
      · have hsettles := settlePreAttach_settles (settledParams image).openAtStart (preAttachEntries image)
        refine ⟨?_, hsettles.nodup⟩
        rw [← preAttachEntries_length image]
        exact hsettles.length.trans (List.length_filter_le _ _)

end Sys2Proof.Machine
end

section
/-! SUPPORT. The reading of the configuration memory on the bus (R183, R184), and the judgement of what was read (R185,
R186). -/

-- Under this option Lean elaborates the proofs one after another: each thread of its own would reserve its own memory.
set_option deprecated.oldSectionVars true

namespace Sys2Proof.Machine

open Sys2Proof

/-! ### What is read (R183, R184) -/

/-- The memory is not reached: CFGSDA stays low through the ninth pulse, or an addressing byte is not acknowledged
(R183). -/
def Unreached (lines : ConfigLines) : Prop :=
  10 ≤ lines.lowLooks ∨ lines.ackWrite = false ∨ lines.ackByte = false ∨ lines.ackRead = false

/-- The bus comes free within nine pulses (R183). -/
theorem clearing_free (lowLooks : Nat) : (clearing lowLooks).2 = decide (lowLooks ≤ 9) := by
  unfold clearing
  split
  next hzero => rw [hzero]; rfl
  · split
    next hfree => exact (decide_eq_true hfree).symm
    next hstuck => exact (decide_eq_false hstuck).symm

theorem addressing_acked (lines : ConfigLines) :
    (addressing lines).2 = (lines.ackWrite && lines.ackByte && lines.ackRead) := by
  unfold addressing
  cases lines.ackWrite <;> cases lines.ackByte <;> cases lines.ackRead <;> rfl

/-- The load on the bus in its three parts, each made only when the one before it has come through. -/
theorem readMemory_eq (lines : ConfigLines) : readMemory lines =
    if (clearing lines.lowLooks).2 = true then
      if (addressing lines).2 = true then
        ((clearing lines.lowLooks).1 ++ (addressing lines).1 ++ readingOps (imageOf lines.bytes),
          .bytes (imageOf lines.bytes))
      else ((clearing lines.lowLooks).1 ++ (addressing lines).1, .absent)
    else ((clearing lines.lowLooks).1, .absent) := by
  unfold readMemory
  rcases clearing lines.lowLooks with ⟨ops, _ | _⟩
  · rfl
  · rcases addressing lines with ⟨ops', _ | _⟩ <;> rfl

theorem readMemory_absent {lines : ConfigLines} (h : Unreached lines) : (readMemory lines).2 = .absent := by
  rw [readMemory_eq, clearing_free, addressing_acked]
  rcases h with hstuck | hack | hack | hack
  · rw [decide_eq_false (Nat.not_le_of_gt hstuck)]
    rfl
  all_goals rw [hack]; split <;> simp

theorem readMemory_bytes {lines : ConfigLines} (h : ¬ Unreached lines) :
    (readMemory lines).2 = .bytes (imageOf lines.bytes) := by
  obtain ⟨hfree, hwrite, hbyte, hread⟩ : lines.lowLooks ≤ 9 ∧ lines.ackWrite = true ∧ lines.ackByte = true
      ∧ lines.ackRead = true := by
    simpa [Unreached, Nat.not_le, Nat.lt_succ_iff] using h
  rw [readMemory_eq, clearing_free, addressing_acked, decide_eq_true hfree, hwrite, hbyte, hread]
  rfl

/-- The Loader reads 64 bytes (R184). -/
@[simp] theorem imageOf_length (bytes : List Byte) : (imageOf bytes).length = 64 := by
  simp [imageOf, Config.imageBytes]

/-! ### The judgement (R185, R186) -/

theorem judge_wrongFormat {image : List Byte} (h : image.getD 0 0 ≠ Config.formatMark) :
    judge (.bytes image) = .defaulted .defaultedFormat := if_pos h

theorem judge_wrongCheck {image : List Byte} (hmark : image.getD 0 0 = Config.formatMark)
    (h : crc16 (image.take 62) ≠ imageCheck image) : judge (.bytes image) = .defaulted .defaultedCheck :=
  (if_neg (not_not.mpr hmark)).trans (if_pos h)

theorem judge_settles {image : List Byte} (hmark : image.getD 0 0 = Config.formatMark)
    (h : crc16 (image.take 62) = imageCheck image) : judge (.bytes image) = settleImage image :=
  (if_neg (not_not.mpr hmark)).trans (if_neg (not_not.mpr h))

/-- The entries of an image as settled with the ports that the image opens (R187, R197). -/
def settledEntries (image : List Byte) : List (Byte × PortSet) × Bool :=
  settlePreAttach (settledParams image).openAtStart (preAttachEntries image)

theorem settleImage_eq (image : List Byte) : settleImage image
    = ⟨if (fieldsAdjusted image || (settledEntries image).2) = true then .adjusted else .loaded, settledParams image,
      (settledEntries image).1⟩ := by
  rcases hsettled : settlePreAttach (settledParams image).openAtStart (preAttachEntries image) with ⟨kept, adjusted⟩
  simp only [settleImage, settledEntries, hsettled]

/-- A field of two bytes is 256 times the first and the second (R197). -/
theorem imageHalf_eq (image : List Byte) (k : Nat) :
    imageHalf image k = 256 * imageByte image k + imageByte image (k + 1) := by
  rw [imageHalf, Nat.mul_comm]

/-- A value out of its range (R186). -/
def OutOfRange (lo hi value : Nat) : Prop := value < lo ∨ hi < value

theorem outOfRange_iff (lo hi value : Nat) : outOfRange lo hi value = true ↔ OutOfRange lo hi value := by
  simp [outOfRange, OutOfRange]

/-- The fields that can be out of range, by their bytes (R186, R197). -/
theorem fieldsAdjusted_iff (image : List Byte) : fieldsAdjusted image = true
    ↔ OutOfRange 0 5 (imageByte image 1) ∨ OutOfRange 44 8191 (256 * imageByte image 2 + imageByte image 3)
      ∨ OutOfRange 0 7 (imageByte image 4) ∨ OutOfRange 1 15 (imageByte image 5) ∨ OutOfRange 1 255 (imageByte image 6)
      ∨ OutOfRange 0 1 (imageByte image 7) ∨ OutOfRange 1 255 (imageByte image 8)
      ∨ OutOfRange 0 4095 (256 * imageByte image 10 + imageByte image 11) ∨ OutOfRange 1 4 (imageByte image 12)
      ∨ OutOfRange 1 4 (imageByte image 13) ∨ OutOfRange 1 4 (imageByte image 14)
      ∨ OutOfRange 1 4 (imageByte image 15) := by
  simp only [fieldsAdjusted, Bool.or_eq_true, outOfRange_iff, imageHalf_eq, or_assoc]

theorem ite_adjusted_iff (c : Prop) [Decidable c] : (if c then LoadResult.adjusted else .loaded) = .adjusted ↔ c := by
  by_cases hc : c <;> simp [hc]

theorem ite_loaded_or_adjusted (c : Prop) [Decidable c] : (if c then LoadResult.adjusted else .loaded) = .loaded
    ∨ (if c then LoadResult.adjusted else .loaded) = .adjusted := by
  by_cases hc : c <;> simp [hc]

/-- A settled image is LOADED or ADJUSTED (R185). -/
theorem settleImage_cases (image : List Byte) :
    (settleImage image).result = .loaded ∨ (settleImage image).result = .adjusted := by
  rw [settleImage_eq]
  exact ite_loaded_or_adjusted _

theorem settleImage_adjusted_iff (image : List Byte) : (settleImage image).result = .adjusted
    ↔ fieldsAdjusted image = true ∨ (settledEntries image).2 = true := by
  rw [settleImage_eq, ite_adjusted_iff, Bool.or_eq_true]

/-! ### The bus (R183, R184) -/

/-- CLEARING makes no start condition (R183). -/
theorem clearing_no_start (lowLooks : Nat) :
    .start ∉ (clearing lowLooks).1 ∧ .repeatedStart ∉ (clearing lowLooks).1 := by
  have hpulses : ∀ n op, op ∈ stuckPulses n → op = .releasedPulse ∨ op = .look false := fun n op hop => by
    obtain ⟨pair, hpair, hop⟩ := List.mem_flatten.mp hop
    rw [List.eq_of_mem_replicate hpair] at hop
    simpa using hop
  have hstart : ∀ n, .start ∉ stuckPulses n := fun n h => (hpulses n _ h).elim nofun nofun
  have hrepeated : ∀ n, .repeatedStart ∉ stuckPulses n := fun n h => (hpulses n _ h).elim nofun nofun
  unfold clearing
  split
  · simp
  · split <;> simp [hstart, hrepeated]

/-- The last byte of an image is the one that is not acknowledged (R184). -/
theorem readingOps_eq {image : List Byte} (h : image.length = 64) : readingOps image
    = (image.take 63).flatMap (busByte .memory .loader · true) ++ busByte .memory .loader (image.getD 63 0) false
      ++ [.stop] := by
  have hlast : image.drop 63 = [image.getD 63 0] := by
    rw [List.drop_eq_getElem_cons (by omega), List.drop_eq_nil_of_le (by omega), List.getD_eq_getElem _ _ (by omega)]
  show _ ++ (image.drop 63).flatMap _ ++ _ = _
  rw [hlast, List.flatMap_singleton]
  rfl

/-- What the Loader does on a free bus after CLEARING: ADDRESSING up to a byte that is not acknowledged, and else the
64 bytes (R183, R184). -/
theorem readMemory_free {lines : ConfigLines} (h : lines.lowLooks ≤ 9) : (readMemory lines).1
    = (clearing lines.lowLooks).1 ++ .start :: busByte .loader .memory 0xA0 lines.ackWrite
      ++ (if lines.ackWrite = false then [.stop]
        else busByte .loader .memory 0 lines.ackByte
          ++ (if lines.ackByte = false then [.stop]
            else .repeatedStart :: busByte .loader .memory 0xA1 lines.ackRead
              ++ (if lines.ackRead = false then [.stop]
                else (imageOf lines.bytes |>.take 63).flatMap (busByte .memory .loader · true)
                  ++ busByte .memory .loader ((imageOf lines.bytes).getD 63 0) false ++ [.stop]))) := by
  have hbytes : deviceByte false = 0xA0 ∧ deviceByte true = 0xA1 := by decide
  rw [readMemory_eq, clearing_free, if_pos (decide_eq_true h), addressing_acked, ← readingOps_eq (imageOf_length _)]
  simp only [addressing, addressingByte, hbytes]
  cases lines.ackWrite <;> cases lines.ackByte <;> cases lines.ackRead <;> simp

/-- A bus that stays low is not addressed (R183). -/
theorem readMemory_stuck {lines : ConfigLines} (h : 10 ≤ lines.lowLooks) :
    (readMemory lines).1 = (clearing lines.lowLooks).1 := by
  rw [readMemory_eq, clearing_free, decide_eq_false (Nat.not_le_of_gt h)]
  rfl

end Sys2Proof.Machine
end

section
/-! CLAIM. The result of the load, the settled fields and entries, and the bus. -/

-- Under this option Lean elaborates the proofs one after another: each thread of its own would reserve its own memory.
set_option deprecated.oldSectionVars true

open Sys2Proof Sys2Proof.Machine

/-- Settles O7: the reading decides between the results, the fields settle one by one and the entries one after another,
and the bus carries CLEARING, the addressing bytes and the image. -/
theorem loadResultsAndPreAttachEntries : Obligations.LoadResultsAndPreAttachEntries := by
  refine ⟨fun lines => ?result, fun openSet entries => ?entries, fun image => ?image, fun lines => ?bus⟩
  case result =>
    intro image b field out j
    split
    next hunreached => exact congrArg judge (readMemory_absent hunreached)
    next hreached =>
      have hj : j = judge (.bytes image) := congrArg judge (readMemory_bytes hreached)
      refine ⟨imageOf_length _, ?_⟩
      split
      next hmark => exact hj.trans (judge_wrongFormat hmark)
      next hmark =>
        have hformat := not_not.mp hmark
        split
        next hcheck => exact hj.trans (judge_wrongCheck hformat hcheck)
        next hcheck =>
          rw [hj, judge_settles hformat (not_not.mp hcheck)]
          refine ⟨settleImage_cases image, ?params, congrArg Judgement.kept (settleImage_eq image), ?adjusted⟩
          case params =>
            have hpolling : decide (b 7 ≠ 0) = if b 7 = 1 then true else if b 7 = 0 then false else true := by
              by_cases hzero : b 7 = 0 <;> simp [hzero]
            show settledParams image = _
            rw [settledParams, imageHalf_eq, imageHalf_eq]
            exact congrArg (fun polling => { settledParams image with
              pollingEnabled := polling
              replyTimeout := field 44 8191 440 (256 * b 2 + b 3)
              holdoff := field 0 4095 220 (256 * b 10 + b 11) }) hpolling
          case adjusted =>
            rw [settleImage_adjusted_iff]
            exact or_congr_left (fieldsAdjusted_iff image)
  case entries =>
    have hsettles := settlePreAttach_settles openSet entries
    have hvalid := settlePreAttach_valid openSet entries
    refine ⟨hsettles.length.trans (List.length_filter_le _ _), hsettles.nodup, fun k hk => ⟨(hvalid k hk).1,
      (hvalid k hk).2, fun p hp => ?_⟩, hsettles.adjusted, hsettles.address, hsettles.order, hsettles.ports⟩
    obtain ⟨-, -, -, -, hopen⟩ := (hsettles.ports k hk p).mp hp
    exact hopen
  case image => exact ⟨preAttachEntries_length image, fun k hk => preAttachEntries_get image hk⟩
  case bus =>
    intro image ops sent
    have hclearing := clearing_no_start lines.lowLooks
    refine ⟨fun hstuck => ?_, fun hfree => ⟨(clearing lines.lowLooks).1, hclearing.1, hclearing.2,
      readMemory_free hfree⟩⟩
    show .start ∉ (readMemory lines).1
    rw [readMemory_stuck hstuck]
    exact hclearing.1

end

section
/-! SUPPORT. LOAD_END (R30, R188): the kept pre-attach entries in the table and on the service list, and the part as the
load leaves it before the first choice. -/

-- Under this option Lean elaborates the proofs one after another: each thread of its own would reserve its own memory.
set_option deprecated.oldSectionVars true

namespace Sys2Proof.Machine

open Sys2Proof

/-! ### The kept entries in the table (R28, R30) -/

/-- The table with the kept entries in slots 0 upward and the other slots FREE. -/
def keptTable (kept : List (Byte × PortSet)) : List (Option Entry) :=
  kept.map (fun k => some (newEntry k.1 k.2)) ++ List.replicate (Config.stationSlots - kept.length) none

/-- The probes of the kept entries, in slot order (R81). -/
def keptProbes (kept : List (Byte × PortSet)) : List ServiceItem := kept.mapIdx fun k e => ⟨k, e.1, .probe⟩

/-- The address and the purpose of a probe do not depend on its slot. -/
theorem probes_addresses (kept : List (Byte × PortSet)) (start : Nat) :
    ((kept.mapIdx fun k e => (⟨k + start, e.1, .probe⟩ : ServiceItem)).map fun i => (i.address, i.purpose))
      = kept.map fun e => (e.1, ServicePurpose.probe) := by
  refine List.ext_getElem? fun k => ?_
  rw [List.getElem?_map, List.getElem?_mapIdx, List.getElem?_map, Option.map_map]
  rfl

/-- The kept entries in the table and on the service list. -/
def State.withKept (s : State) (kept : List (Byte × PortSet)) : State :=
  { s with table := keptTable kept, arbiter := { s.arbiter with serviceList := keptProbes kept } }

section

variable (s : State) (kept : List (Byte × PortSet))

theorem State.withKept_entry (k : Nat) :
    (s.withKept kept).entry k = (kept[k]?).map fun e => newEntry e.1 e.2 := by
  show (keptTable kept).getD k none = _
  rw [keptTable, List.getD_eq_getElem?_getD, List.getElem?_append, List.length_map]
  split
  next hk => rw [List.getElem?_map, List.getElem?_eq_getElem hk]; rfl
  next hk =>
    rw [List.getElem?_eq_none (Nat.le_of_not_lt hk), List.getElem?_replicate]
    split <;> rfl

theorem State.withKept_freeSlot (h : kept.length < Config.stationSlots) :
    (s.withKept kept).freeSlot = some kept.length := by
  obtain ⟨free, hfree⟩ : ∃ n, Config.stationSlots - kept.length = n + 1 := ⟨_, (Nat.succ_pred (by omega)).symm⟩
  have hused : (kept.map fun k => some (newEntry k.1 k.2)).findIdx? (fun o => o.isNone) = none := by simp
  show (keptTable kept).findIdx? _ = _
  rw [keptTable, List.findIdx?_append, hused, hfree, List.replicate_succ, List.findIdx?_cons]
  simp

theorem State.withKept_slotOf {a : Byte} (h : a ∉ kept.map (·.1)) : (s.withKept kept).slotOf a = none := by
  cases hslot : (s.withKept kept).slotOf a with
  | none => rfl
  | some k =>
    obtain ⟨e, he, ha⟩ := (s.withKept kept).slotOf_spec hslot
    rw [s.withKept_entry, Option.map_eq_some_iff] at he
    obtain ⟨entry, hentry, rfl⟩ := he
    exact absurd (List.mem_map.mpr ⟨entry, List.mem_of_getElem? hentry, ha⟩) h

/-- A kept entry of a new address is created in the next slot (R30). -/
theorem State.withKept_preAttach {e : Byte × PortSet} (hnew : e.1 ∉ kept.map (·.1))
    (hroom : kept.length < Config.stationSlots) : (s.withKept kept).preAttach e = s.withKept (kept ++ [e]) := by
  obtain ⟨free, hfree⟩ : ∃ n, Config.stationSlots - kept.length = n + 1 := ⟨_, (Nat.succ_pred (by omega)).symm⟩
  have hrest : Config.stationSlots - (kept ++ [e]).length = free := by
    rw [List.length_append, List.length_singleton]; omega
  have htable : (keptTable kept).set kept.length (some (newEntry e.1 e.2)) = keptTable (kept ++ [e]) := by
    rw [keptTable, keptTable, hrest, hfree, List.replicate_succ, List.set_append_right _ _ (by simp)]
    simp
  have hprobes : keptProbes kept ++ [⟨kept.length, e.1, .probe⟩] = keptProbes (kept ++ [e]) :=
    List.mapIdx_concat.symm
  have hcreated : (s.withKept kept).preAttach e = (s.withKept kept).createEntry kept.length e.1 e.2 := by
    rw [State.preAttach, s.withKept_slotOf kept hnew, s.withKept_freeSlot kept hroom]
  refine hcreated.trans ?_
  show ({ s with
    table := (keptTable kept).set kept.length (some (newEntry e.1 e.2))
    arbiter := { s.arbiter with serviceList := keptProbes kept ++ [⟨kept.length, e.1, .probe⟩] } } : State) = _
  rw [htable, hprobes]
  rfl

end

/-- On a free table the kept entries are created one behind another (R30). -/
theorem State.preAttaches_eq {s : State} (htable : s.table = List.replicate Config.stationSlots none)
    (hlist : s.arbiter.serviceList = []) (kept : List (Byte × PortSet)) (hnodup : (kept.map (·.1)).Nodup)
    (hroom : kept.length ≤ Config.stationSlots) : kept.foldl State.preAttach s = s.withKept kept := by
  induction kept using List.reverseRecOn with
  | nil =>
    show s = { s with table := List.replicate Config.stationSlots none, arbiter := { s.arbiter with serviceList := [] } }
    rw [← htable, ← hlist]
  | append_singleton kept e ih =>
    rw [List.map_append, List.nodup_append] at hnodup
    obtain ⟨hnodup, -, hdisjoint⟩ := hnodup
    have hnew : e.1 ∉ kept.map (·.1) := fun h => hdisjoint e.1 h e.1 (List.mem_singleton_self _) rfl
    rw [List.length_append, List.length_singleton] at hroom
    rw [List.foldl_concat, ih hnodup (Nat.le_of_succ_le hroom), s.withKept_preAttach kept hnew hroom]

/-! ### The part before the first choice (R181, R188) -/

/-- A port at the end of the load (R168, R181). -/
theorem PortUnit.untouched.loadEnds {u : PortUnit} (h : u.untouched) (opens : Bool) (result : LoadResult) :
    u.loadEnds opens result = { u with
      state := if opens then .opened else .closed
      sticky := { Sticky.allClear with config := decide (result ≠ .loaded) } } := by
  rw [h.eq]
  cases opens <;> cases result <;> rfl

/-- The part after APPLYING, with the line still held. -/
def State.loaded (s : State) (image : List Byte) (bus : List BusOp) (j : Judgement) : State :=
  ({ s with loader := Loader.finished image bus j }.withKept j.kept).updPorts fun p u =>
    u.loadEnds (j.params.openAtStart.get p) j.result

section

variable {s : State} (h : Held s) (image : List Byte) (bus : List BusOp) {j : Judgement}

include h

theorem Held.applyLoad_eq (hnodup : (j.kept.map (·.1)).Nodup) (hroom : j.kept.length ≤ Config.stationSlots) :
    s.applyLoad image bus j = (s.loaded image bus j).resumed := by
  have hlist : s.arbiter.serviceList = [] := by rw [h.arbiter]; rfl
  have hkept := State.preAttaches_eq (s := { s with loader := Loader.finished image bus j }) h.table hlist j.kept hnodup
    hroom
  exact congrArg (fun t : State => (t.updPorts fun p u =>
    u.loadEnds (j.params.openAtStart.get p) j.result).resumed) hkept

theorem Held.loaded_port (p : Port) : (s.loaded image bus j).port p = { s.port p with
    state := if j.params.openAtStart.get p then .opened else .closed
    sticky := { Sticky.allClear with config := decide (j.result ≠ .loaded) } } := by
  rw [State.loaded, State.updPorts_port]
  exact PortUnit.untouched.loadEnds (h.ports p) _ _

theorem Held.loaded_queue (p : Port) : ((s.loaded image bus j).port p).queue = [] := by
  rw [h.loaded_port, (h.ports p).eq]
  rfl

/-- With nothing kept there is nothing to choose (R80, R97). -/
theorem Held.loaded_settle_nothing (hkept : j.kept = []) :
    (s.loaded image bus j).resumed.settle true = (s.loaded image bus j).resumed := by
  have hservice : (s.loaded image bus j).resumed.arbiter.serviceList = [] := by
    show keptProbes j.kept = []
    rw [hkept]
    rfl
  have hcycle : (s.loaded image bus j).resumed.arbiter.cycleOpen = false := by
    show s.arbiter.cycleOpen = false
    rw [h.arbiter]
    rfl
  exact State.settleAll_of_nothingWaits _ _ true ⟨h.loaded_queue image bus, hservice, hcycle⟩ h.exchange

/-- With an entry kept, the first choice is the probe of slot 0 (R80, R82, R97). -/
theorem Held.loaded_settle_probes {first : Byte × PortSet} {rest : List (Byte × PortSet)}
    (hkept : j.kept = first :: rest) : (s.loaded image bus j).resumed.settle true
      = ({ (s.loaded image bus j).resumed with arbiter := { (s.loaded image bus j).resumed.arbiter with
          serviceList := rest.mapIdx fun k e => ⟨k + 1, e.1, .probe⟩ } } : State).startExchange
        (pingExchange .probe 0 (newEntry first.1 first.2)) := by
  have hlist : (s.loaded image bus j).arbiter.serviceList
      = ⟨0, first.1, .probe⟩ :: rest.mapIdx fun k e => ⟨k + 1, e.1, .probe⟩ := by
    show keptProbes j.kept = _
    rw [hkept, keptProbes, List.mapIdx_cons]
  have hentry : (s.loaded image bus j).entry 0 = some (newEntry first.1 first.2) := by
    refine (State.withKept_entry { s with loader := Loader.finished image bus j } j.kept 0).trans ?_
    rw [hkept]
    rfl
  have hx : (s.loaded image bus j).exchange = none := h.exchange
  have hstart := (s.loaded image bus j).resumed_settle (h.loaded_queue image bus) hx hlist hentry
  dsimp only [ServicePurpose.exchange] at hstart
  exact hstart

end

/-- A frame given to a line just enabled waits for the gap (R3, R9). -/
theorem LineInterface.give_enabled (l : LineInterface) (frame : List Byte) :
    l.enabled.give frame = { l.enabled with tx := .waiting frame } := by
  unfold LineInterface.give
  exact if_neg (by decide : (0 : Nat) ≠ Config.frameGap)

end Sys2Proof.Machine
end

section
/-! CLAIM. LOAD_END. -/

-- Under this option Lean elaborates the proofs one after another: each thread of its own would reserve its own memory.
set_option deprecated.oldSectionVars true

open Sys2Proof Sys2Proof.Machine

/-- Settles O6: the kept entries fill the held table from slot 0, and what the part then takes up is nothing, or the probe
of slot 0. -/
theorem loadEndStartsThePart : Obligations.LoadEndStartsThePart := by
  intro s lines hrun hinv
  have hheld := hinv.held (.inr hrun)
  obtain ⟨height, hnodup⟩ := judge_kept (readMemory lines).2
  have hroom : (judge (readMemory lines).2).kept.length ≤ Config.stationSlots := height.trans (by decide)
  have hcycle : s.arbiter.cycleOpen = false := by rw [hheld.arbiter]; rfl
  refine ⟨_, exec_loadEnd hrun lines, (TakenUp.settle _ true).run, ?_⟩
  rw [hheld.applyLoad_eq _ _ hnodup hroom]
  generalize judge (readMemory lines).2 = j
  have hport := hheld.loaded_port (readMemory lines).2.image (readMemory lines).1 (j := j)
  have hentry := State.withKept_entry { s with
    loader := Loader.finished (readMemory lines).2.image (readMemory lines).1 j } j.kept
  obtain ⟨result, params, kept⟩ := j
  cases kept with
  | nil =>
    rw [hheld.loaded_settle_nothing _ _ rfl]
    exact ⟨rfl, hport, hentry, rfl, hcycle, rfl, rfl, hheld.exchange, rfl, rfl⟩
  | cons first rest =>
    rw [hheld.loaded_settle_probes _ _ rfl]
    have hgive := s.line.give_enabled (pingFrame first.1 ⟨false, false⟩)
    exact ⟨rfl, hport, hentry, rfl, hcycle, congrArg LineInterface.rx hgive, congrArg LineInterface.idle hgive, rfl,
      congrArg LineInterface.tx hgive, probes_addresses rest 1⟩

end

section
/-! SUPPORT. The fields of the words of a record, read back from their bits (R193-R195; Sections 10.3 to 10.5). -/

-- Under this option Lean elaborates the proofs one after another: each thread of its own would reserve its own memory.
set_option deprecated.oldSectionVars true

namespace Sys2Proof.Machine

open Sys2Proof

/-! ### Numbers and flags in a field -/

section

variable {w : Word} {start : Nat}

theorem toNat_of_field {len n : Nat} (h : w.extractLsb' start len = BitVec.ofNat len n) (hn : n < 2 ^ len) :
    (w.extractLsb' start len).toNat = n := by
  rw [h, BitVec.toNat_ofNat, Nat.mod_eq_of_lt hn]

theorem getLsbD_of_flag {b : Bool} (h : w.extractLsb' start 1 = BitVec.ofBool b) : w.getLsbD start = b :=
  (getLsbD_of_field h (i := 0) Nat.one_pos).trans (by simp)

theorem PortSet.nibble_getLsbD (a : PortSet) : (PortSet.nibble a).getLsbD 0 = a.q0
    ∧ (PortSet.nibble a).getLsbD 1 = a.q1 ∧ (PortSet.nibble a).getLsbD 2 = a.q2 ∧ (PortSet.nibble a).getLsbD 3 = a.q3 := by
  have hbits : ∀ i, (PortSet.nibble a).getLsbD i = @BitVec.getLsbD (1 + 1 + 1 + 1)
    (BitVec.ofBool a.q3 ++ BitVec.ofBool a.q2 ++ BitVec.ofBool a.q1 ++ BitVec.ofBool a.q0) i := fun _ => rfl
  simp only [hbits, BitVec.getLsbD_append]
  simp

/-- A field that holds a set of ports shows port n in its bit n. -/
theorem getLsbD_of_ports {a : PortSet} (h : w.extractLsb' start 4 = PortSet.nibble a) : w.getLsbD start = a.q0
    ∧ w.getLsbD (start + 1) = a.q1 ∧ w.getLsbD (start + 2) = a.q2 ∧ w.getLsbD (start + 3) = a.q3 := by
  obtain ⟨hport0, hport1, hport2, hport3⟩ := PortSet.nibble_getLsbD a
  exact ⟨(getLsbD_of_field h (i := 0) (by decide)).trans hport0, (getLsbD_of_field h (by decide)).trans hport1,
    (getLsbD_of_field h (by decide)).trans hport2, (getLsbD_of_field h (by decide)).trans hport3⟩

end

/-! ### The request records (R193, Section 10.3) -/

section

variable (kind : BitVec 4) (h : Header) (header : Word) (a count : Byte) (first : Half) (body : List Word)

@[simp] theorem Request.quiet_headerWord : Request.quiet ⟨headerWord kind h, body⟩ = h.quiet := by
  show (headerWord kind h).getLsbD 18 = _
  rw [headerWord_getLsbD]
  simp

@[simp] theorem Request.notify_headerWord : Request.notify ⟨headerWord kind h, body⟩ = h.notify := by
  show (headerWord kind h).getLsbD 17 = _
  rw [headerWord_getLsbD]
  simp

theorem Request.badLength_headerWord : Request.badLength ⟨headerWord kind h, body⟩ = badLengthByte h.length :=
  congrArg badLengthByte (lengthByte_headerWord kind h)

@[simp] theorem Request.low_subWord (sub second : Byte) (low : Half) :
    Request.low ⟨header, subWord sub second low :: body⟩ = low := BitVec.extractLsb'_append_eq_right

/-- Words 1 and 2 of a WAKESET give its pattern, whatever header they follow: none of its fields stands there. -/
theorem Request.pattern_wakesetWords (n : BitVec 4) (enabled : Bool) (station : Byte) (point bits compare : Half) :
    Request.patternNumber ⟨header, wakesetWords n enabled station point bits compare ++ body⟩ = n.toNat
    ∧ Request.pattern ⟨header, wakesetWords n enabled station point bits compare ++ body⟩
      = ⟨enabled, station, point, bits, compare⟩ :=
  ⟨wakesetRequest_number ⟨0, 0, 0, false, false, false⟩ n enabled station point _,
    wakesetRequest_pattern ⟨0, 0, 0, false, false, false⟩ n enabled station point bits compare⟩

end

/-! ### The values of a WRITE or CWRITE (R151) -/

/-- The earlier value of a word stands in bits 31-16. -/
theorem unpackHalves_getElem? : ∀ (ws : List Word) (i : Nat), i < 2 * ws.length →
    (unpackHalves ws)[i]? = some (if i % 2 = 0 then (ws.getD (i / 2) 0).extractLsb' 16 16
      else (ws.getD (i / 2) 0).extractLsb' 0 16)
  | [], _, h => by simp at h
  | _ :: _, 0, _ => rfl
  | _ :: _, 1, _ => rfl
  | w :: ws, i + 2, h => by
    have hrest := unpackHalves_getElem? ws i (by simp only [List.length_cons] at h; omega)
    rw [Nat.add_mod_right, Nat.add_div_right i Nat.two_pos]
    exact hrest

theorem unpackHalves_length (ws : List Word) : (unpackHalves ws).length = 2 * ws.length := by
  simp [unpackHalves, Nat.mul_comm]

/-- A line request carries as many values as its count says; what its words hold behind them is passed over. -/
theorem Request.values_lineWord (header : Word) (a : Byte) (first : Half) (count : Byte) (words : List Word) :
    Request.values ⟨header, lineWord a first count :: words⟩ = (unpackHalves words).take count.toNat := by
  rw [Request.values, Request.count_lineWord]
  rfl

/-! ### The completion records (R194, Section 10.4)

Here and below a word is a concatenation of its fields: a field is the last of them, or stands in what is before the
last. -/

section

variable (c : Completion)

theorem Completion.word0_fields : c.word0.extractLsb' 28 4 = c.kind ∧ c.word0.extractLsb' 24 4 = c.status.code
    ∧ c.word0.extractLsb' 20 4 = c.detail ∧ c.word0.extractLsb' 16 4 = BitVec.ofNat 4 c.attempts
    ∧ c.word0.extractLsb' 8 8 = c.tag ∧ c.word0.extractLsb' 0 8 = BitVec.ofNat 8 c.length := by
  unfold Completion.word0
  simp (disch := decide) only [BitVec.extractLsb'_append_eq_right, BitVec.extractLsb'_append_eq_left,
    BitVec.extractLsb'_append_eq_of_le, Nat.reduceSub, and_self]

theorem Completion.words_length : c.words.length = c.length := Nat.add_comm c.body.length 2

/-- The attempts and the length stand in their fields as they are. -/
theorem Completion.word0_numbers (hbody : c.body.length ≤ 64) (hattempts : c.attempts ≤ 8) :
    (c.word0.extractLsb' 16 4).toNat = c.attempts ∧ (c.word0.extractLsb' 0 8).toNat = c.words.length := by
  obtain ⟨-, -, -, htries, -, hlength⟩ := c.word0_fields
  have hshort : c.length < 2 ^ 8 := by
    rw [Completion.length]
    omega
  exact ⟨toNat_of_field htries (by omega), (toNat_of_field hlength hshort).trans c.words_length.symm⟩

theorem Completion.word1_fields : c.word1.extractLsb' 24 8 = c.station ∧ c.word1.extractLsb' 8 16 = c.first
    ∧ c.word1.extractLsb' 0 8 = c.count := by
  unfold Completion.word1
  simp (disch := decide) only [BitVec.extractLsb'_append_eq_right, BitVec.extractLsb'_append_eq_left,
    BitVec.extractLsb'_append_eq_of_le, Nat.reduceSub, and_self]

end

/-! ### The report records (R195, Section 10.5) -/

section

variable (r : ItemsRecord)

theorem ItemsRecord.word0_fields : r.word0.extractLsb' 28 4 = 1 ∧ r.word0.extractLsb' 25 3 = 0
    ∧ r.word0.extractLsb' 24 1 = BitVec.ofBool r.gap ∧ r.word0.extractLsb' 20 4 = 0
    ∧ r.word0.extractLsb' 16 4 = BitVec.ofNat 4 r.items.length ∧ r.word0.extractLsb' 8 8 = r.station
    ∧ r.word0.extractLsb' 0 8 = BitVec.ofNat 8 r.length := by
  unfold ItemsRecord.word0
  simp (disch := decide) only [BitVec.extractLsb'_append_eq_right, BitVec.extractLsb'_append_eq_left,
    BitVec.extractLsb'_append_eq_of_le, Nat.reduceSub, and_self]

/-- The item count and the length stand in their fields as they are. -/
theorem ItemsRecord.word0_numbers (hitems : r.items.length ≤ 8) :
    (r.word0.extractLsb' 16 4).toNat = r.items.length ∧ (r.word0.extractLsb' 0 8).toNat = 1 + r.items.length := by
  obtain ⟨-, -, -, -, hcount, -, hlength⟩ := r.word0_fields
  have hshort : r.length < 2 ^ 8 := by
    rw [ItemsRecord.length]
    omega
  exact ⟨toNat_of_field hcount (by omega), toNat_of_field hlength hshort⟩

/-- The bits of word 0 of a report record, those below the gap flag and those above it. -/
theorem ItemsRecord.word0_getLsbD (j : Nat) : r.word0.getLsbD j
    = if j < 8 then (BitVec.ofNat 8 r.length).getLsbD j else if j - 8 < 8 then r.station.getLsbD (j - 8)
      else if j - 16 < 4 then (BitVec.ofNat 4 r.items.length).getLsbD (j - 16)
      else if j - 20 < 4 then (0 : BitVec 4).getLsbD (j - 20)
      else if j - 24 < 1 then (BitVec.ofBool r.gap).getLsbD (j - 24)
      else if j - 25 < 3 then (0 : BitVec 3).getLsbD (j - 25) else (1 : BitVec 4).getLsbD (j - 28) := by
  have hword : r.word0.getLsbD j = @BitVec.getLsbD (4 + 3 + 1 + 4 + 4 + 8 + 8) ((1 : BitVec 4) ++ (0 : BitVec 3)
    ++ BitVec.ofBool r.gap ++ (0 : BitVec 4) ++ BitVec.ofNat 4 r.items.length ++ r.station
    ++ BitVec.ofNat 8 r.length) j := rfl
  rw [hword]
  iterate 6 rw [BitVec.getLsbD_append]
  simp only [Nat.sub_sub, Nat.reduceAdd]

/-- The gap flag is bit 24 alone. -/
theorem ItemsRecord.word0_gap_iff (j : Nat) :
    ({ r with gap := !r.gap } : ItemsRecord).word0.getLsbD j = r.word0.getLsbD j ↔ j ≠ 24 := by
  rw [ItemsRecord.word0_getLsbD, ItemsRecord.word0_getLsbD]
  by_cases hj : j = 24
  · subst hj
    simp
  · refine iff_of_true ?_ hj
    by_cases hlow : j - 20 < 4
    · simp only [hlow, if_true]
      rfl
    · have hgap : ¬ j - 24 < 1 := by omega
      simp only [hgap, if_false]
      rfl

theorem ItemsRecord.words_length : r.words.length = 1 + r.items.length := by
  simp [ItemsRecord.words, Nat.add_comm]

end

/-- A word of the record, as a TAKE-REPORT finds it at its position. -/
theorem ItemsRecord.words_getElem? {r : ItemsRecord} {pos : Nat} (h : pos < r.words.length) :
    r.words[pos]? = some (r.words.getD pos 0) := by
  rw [List.getElem?_eq_getElem h, List.getD_eq_getElem _ _ h]

/-- A word of a TAKE that acts, on the link of its port. -/
theorem State.takeWord_link {s : State} {p : Port} {c : Channel} (h : s.acts p c = true)
    {take : PortUnit → PortUnit × Word} {u : PortUnit} {w : Word} (htake : take (s.port p) = (u, w)) :
    ((s.takeWord p c take).port p).link = { u.link with sent := some w } := by
  rw [State.takeWord_acts h htake, State.setPort_port_same]

end Sys2Proof.Machine
end

section
/-! SUPPORT. The results of the QUERY requests and of a READ, read back from their words (R157, R194; Section 10.4). -/

-- Under this option Lean elaborates the proofs one after another: each thread of its own would reserve its own memory.
set_option deprecated.oldSectionVars true

namespace Sys2Proof.Machine

open Sys2Proof

/-! ### QUERY STATION -/

section

variable (e : Entry)

/-- Word 2 of QUERY STATION: the state in bits 31-24, the failures, the highest point. -/
def Entry.stateWord : Word :=
  ((0 : BitVec 4) ++ e.state.code ++ BitVec.ofNat 8 e.failures ++ e.highest : BitVec 32)

/-- Word 3 of QUERY STATION: the capability, whether the toggle is known, the attached ports. -/
def Entry.portsWord : Word :=
  ((0 : BitVec 7) ++ BitVec.ofBool e.capable ++ (0 : BitVec 7) ++ BitVec.ofBool e.toggle.isSome
    ++ (0 : BitVec 12) ++ PortSet.nibble e.attached : BitVec 32)

theorem stationWords_eq : stationWords e = [e.stateWord, e.portsWord] := rfl

theorem Entry.stateWord_fields : e.stateWord.extractLsb' 24 8 = (0 : BitVec 4) ++ e.state.code
    ∧ e.stateWord.extractLsb' 16 8 = BitVec.ofNat 8 e.failures ∧ e.stateWord.extractLsb' 0 16 = e.highest := by
  unfold Entry.stateWord
  simp (disch := decide) only [BitVec.extractLsb'_append_eq_right, BitVec.extractLsb'_append_eq_left,
    BitVec.extractLsb'_append_eq_of_le, Nat.reduceSub, and_self]

theorem Entry.portsWord_fields : e.portsWord.extractLsb' 25 7 = 0
    ∧ e.portsWord.extractLsb' 24 1 = BitVec.ofBool e.capable ∧ e.portsWord.extractLsb' 17 7 = 0
    ∧ e.portsWord.extractLsb' 16 1 = BitVec.ofBool e.toggle.isSome ∧ e.portsWord.extractLsb' 4 12 = 0
    ∧ e.portsWord.extractLsb' 0 4 = PortSet.nibble e.attached := by
  unfold Entry.portsWord
  simp (disch := decide) only [BitVec.extractLsb'_append_eq_right, BitVec.extractLsb'_append_eq_left,
    BitVec.extractLsb'_append_eq_of_le, Nat.reduceSub, and_self]

end

/-! ### QUERY WATCHES -/

section

variable (w : Watch)

/-- The remaining life that a slot shows: 0 beside the mark of an unlimited one. -/
def Life.shown : Life → Nat
  | .ticks n => n
  | .unlimited => 0

/-- The station and the range that a slot shows: 0 where it covers none. -/
def Watch.coverShown : Cover := w.cover.getD ⟨0, 0, 0⟩

/-- The first word of a slot: state, cause, the mark of an unlimited life, the remaining life, the station. -/
def Watch.stateWord : Word :=
  (w.state.code ++ w.cause.code ++ (0 : BitVec 7) ++ BitVec.ofBool (decide (w.life = .unlimited))
    ++ BitVec.ofNat 8 w.life.shown ++ w.coverShown.station : BitVec 32)

/-- The second word of a slot: first point and count. -/
def Watch.rangeWord : Word := (w.coverShown.first ++ BitVec.ofNat 16 w.coverShown.count : BitVec 32)

theorem watchWords_eq : watchWords w = [w.stateWord, w.rangeWord] := by
  obtain ⟨state, cover, notify, life, cause⟩ := w
  cases life <;> cases cover <;> rfl

theorem Watch.stateWord_fields : w.stateWord.extractLsb' 28 4 = w.state.code
    ∧ w.stateWord.extractLsb' 24 4 = w.cause.code ∧ w.stateWord.extractLsb' 17 7 = 0
    ∧ w.stateWord.extractLsb' 16 1 = BitVec.ofBool (decide (w.life = .unlimited))
    ∧ w.stateWord.extractLsb' 8 8 = BitVec.ofNat 8 w.life.shown
    ∧ w.stateWord.extractLsb' 0 8 = w.coverShown.station := by
  unfold Watch.stateWord
  simp (disch := decide) only [BitVec.extractLsb'_append_eq_right, BitVec.extractLsb'_append_eq_left,
    BitVec.extractLsb'_append_eq_of_le, Nat.reduceSub, and_self]

theorem Watch.rangeWord_fields : w.rangeWord.extractLsb' 16 16 = w.coverShown.first
    ∧ w.rangeWord.extractLsb' 0 16 = BitVec.ofNat 16 w.coverShown.count :=
  ⟨BitVec.extractLsb'_append_eq_left, BitVec.extractLsb'_append_eq_right⟩

variable {w}

theorem Watch.coverShown_of_some {c : Cover} (h : w.cover = some c) : w.coverShown = c := by
  rw [Watch.coverShown, h, Option.getD_some]

end

/-! ### QUERY LINE -/

section

variable (p : LineParams) (overruns : Byte) (result : LoadResult)

/-- Word 2 of QUERY LINE: rate, retry limit, failure threshold, polling, reply timeout. -/
def queryLineTimeouts : Word :=
  (BitVec.ofNat 4 p.rateCode ++ BitVec.ofNat 4 p.retryLimit ++ BitVec.ofNat 4 p.failureThreshold
    ++ BitVec.ofBool p.pollingEnabled ++ (0 : BitVec 6) ++ BitVec.ofNat 13 p.replyTimeout : BitVec 32)

/-- Word 3 of QUERY LINE: poll period, reprobe interval, watch lifetime, overruns. -/
def queryLinePeriods : Word :=
  (BitVec.ofNat 8 p.pollPeriod ++ BitVec.ofNat 8 p.reprobeInterval ++ BitVec.ofNat 8 p.watchLifetime
    ++ overruns : BitVec 32)

/-- Word 4 of QUERY LINE: hold-off, the ports open at start, the four weights. -/
def queryLinePorts : Word :=
  (BitVec.ofNat 12 p.holdoff ++ PortSet.nibble p.openAtStart ++ BitVec.ofNat 4 p.weights.q3
    ++ BitVec.ofNat 4 p.weights.q2 ++ BitVec.ofNat 4 p.weights.q1 ++ BitVec.ofNat 4 p.weights.q0 : BitVec 32)

/-- Word 5 of QUERY LINE: the load result. -/
def LoadResult.word : Word := (result.code ++ (0 : BitVec 24) : BitVec 32)

theorem lineWords_eq :
    lineWords p overruns result
      = [queryLineTimeouts p, queryLinePeriods p overruns, queryLinePorts p, result.word] := rfl

theorem queryLineTimeouts_fields : (queryLineTimeouts p).extractLsb' 28 4 = BitVec.ofNat 4 p.rateCode
    ∧ (queryLineTimeouts p).extractLsb' 24 4 = BitVec.ofNat 4 p.retryLimit
    ∧ (queryLineTimeouts p).extractLsb' 20 4 = BitVec.ofNat 4 p.failureThreshold
    ∧ (queryLineTimeouts p).extractLsb' 19 1 = BitVec.ofBool p.pollingEnabled
    ∧ (queryLineTimeouts p).extractLsb' 13 6 = 0 ∧ (queryLineTimeouts p).extractLsb' 0 13 = BitVec.ofNat 13 p.replyTimeout := by
  unfold queryLineTimeouts
  simp (disch := decide) only [BitVec.extractLsb'_append_eq_right, BitVec.extractLsb'_append_eq_left,
    BitVec.extractLsb'_append_eq_of_le, Nat.reduceSub, and_self]

theorem queryLinePeriods_fields : (queryLinePeriods p overruns).extractLsb' 24 8 = BitVec.ofNat 8 p.pollPeriod
    ∧ (queryLinePeriods p overruns).extractLsb' 16 8 = BitVec.ofNat 8 p.reprobeInterval
    ∧ (queryLinePeriods p overruns).extractLsb' 8 8 = BitVec.ofNat 8 p.watchLifetime
    ∧ (queryLinePeriods p overruns).extractLsb' 0 8 = overruns := by
  unfold queryLinePeriods
  simp (disch := decide) only [BitVec.extractLsb'_append_eq_right, BitVec.extractLsb'_append_eq_left,
    BitVec.extractLsb'_append_eq_of_le, Nat.reduceSub, and_self]

theorem queryLinePorts_fields : (queryLinePorts p).extractLsb' 20 12 = BitVec.ofNat 12 p.holdoff
    ∧ (queryLinePorts p).extractLsb' 16 4 = PortSet.nibble p.openAtStart
    ∧ (queryLinePorts p).extractLsb' 0 4 = BitVec.ofNat 4 p.weights.q0
    ∧ (queryLinePorts p).extractLsb' 4 4 = BitVec.ofNat 4 p.weights.q1
    ∧ (queryLinePorts p).extractLsb' 8 4 = BitVec.ofNat 4 p.weights.q2
    ∧ (queryLinePorts p).extractLsb' 12 4 = BitVec.ofNat 4 p.weights.q3 := by
  unfold queryLinePorts
  simp (disch := decide) only [BitVec.extractLsb'_append_eq_right, BitVec.extractLsb'_append_eq_left,
    BitVec.extractLsb'_append_eq_of_le, Nat.reduceSub, and_self]

theorem LoadResult.word_fields : result.word.extractLsb' 24 8 = result.code ∧ result.word.extractLsb' 0 24 = 0 :=
  ⟨BitVec.extractLsb'_append_eq_left, BitVec.extractLsb'_append_eq_right⟩

end

/-! ### The values of a READ and the addresses of QUERY CHANGES -/

theorem packHalves_length : ∀ values : List Half, (packHalves values).length = (values.length + 1) / 2
  | [] => rfl
  | [_] => by simp [packHalves]
  | _ :: _ :: rest => by
    simp only [packHalves, List.length_cons, packHalves_length rest]
    omega

/-- Word number i holds the values 2i and 2i + 1, with 0 behind the last of them. -/
theorem packHalves_getElem? : ∀ (values : List Half) (i : Nat), i < (values.length + 1) / 2 →
    (packHalves values)[i]? = some (values.getD (2 * i) 0 ++ values.getD (2 * i + 1) 0)
  | [], _, h => by simp at h
  | [_], 0, _ => rfl
  | [_], _ + 1, h => by simp at h
  | _ :: _ :: _, 0, _ => rfl
  | _ :: _ :: rest, i + 1, h =>
    packHalves_getElem? rest i (by simp only [List.length_cons] at h; omega)

theorem packBytes_length : ∀ bytes : List Byte, (packBytes bytes).length = (bytes.length + 3) / 4
  | [] => rfl
  | [_] => by simp [packBytes]
  | [_, _] => by simp [packBytes]
  | [_, _, _] => by simp [packBytes]
  | _ :: _ :: _ :: _ :: rest => by
    simp only [packBytes, List.length_cons, packBytes_length rest]
    omega

theorem toNat_append_zero {n : Nat} (x : BitVec n) (m : Nat) : (x ++ (0 : BitVec m)).toNat = x.toNat <<< m := by
  rw [BitVec.toNat_append]
  exact Nat.or_zero _

theorem append_zero_half (x : Half) : (x ++ (0 : Half) : BitVec 32) = x ++ (0 : Byte) ++ (0 : Byte) := by
  refine BitVec.eq_of_toNat_eq ?_
  rw [toNat_append_zero, toNat_append_zero, toNat_append_zero, ← Nat.shiftLeft_add]

theorem append_zero_bytes (x : Byte) :
    (x ++ (0 : BitVec 24) : BitVec 32) = x ++ (0 : Byte) ++ (0 : Byte) ++ (0 : Byte) := by
  refine BitVec.eq_of_toNat_eq ?_
  rw [toNat_append_zero, toNat_append_zero, toNat_append_zero, toNat_append_zero, ← Nat.shiftLeft_add,
    ← Nat.shiftLeft_add]

/-- Word number i holds the four bytes from 4i on, with 0 behind the last of them. -/
theorem packBytes_getElem? : ∀ (bytes : List Byte) (i : Nat), i < (bytes.length + 3) / 4 →
    (packBytes bytes)[i]? = some (bytes.getD (4 * i) 0 ++ bytes.getD (4 * i + 1) 0 ++ bytes.getD (4 * i + 2) 0
      ++ bytes.getD (4 * i + 3) 0)
  | [], _, h => by simp at h
  | [a], 0, _ => congrArg some (append_zero_bytes a)
  | [a, b], 0, _ => congrArg some (append_zero_half (a ++ b))
  | [_, _, _], 0, _ => rfl
  | [_], _ + 1, h => by simp at h
  | [_, _], _ + 1, h => by simp at h
  | [_, _, _], _ + 1, h => by simp at h
  | _ :: _ :: _ :: _ :: _, 0, _ => rfl
  | _ :: _ :: _ :: _ :: rest, i + 1, h =>
    packBytes_getElem? rest i (by simp only [List.length_cons] at h; omega)

end Sys2Proof.Machine
end

section
/-! CLAIM. The fields of the records, and the report records of a TAKE-REPORT. -/

-- Under this option Lean elaborates the proofs one after another: each thread of its own would reserve its own memory.
set_option deprecated.oldSectionVars true

open Sys2Proof Sys2Proof.Machine

/-- Settles O52: each word is a concatenation whose fields are read back one by one, and a number of a field's width is
read back as it is. -/
theorem recordFieldsReadBack : Obligations.RecordFieldsReadBack := by
  refine ⟨fun kind h a first count body => ?request, ⟨fun c hbody hattempts => ?completion, fun r hitems => ?report⟩,
    fun e hfailures => ?station, fun w => ?watch, fun p overruns result hp => ?line,
    fun kind h a first count words hcount => ?values, fun values => ?halves, fun addresses => ?bytes⟩
  case request =>
    exact ⟨⟨Request.kind_headerWord .., Request.tag_headerWord .., Request.slot_headerWord ..,
        Request.quiet_headerWord .., Request.notify_headerWord .., Request.watch_headerWord ..,
        Request.badLength_headerWord ..⟩,
      ⟨Request.top_lineWord .., Request.first_lineWord .., Request.count_lineWord ..⟩, Request.top_addressWord ..,
      ⟨Request.top_subWord .., Request.second_subWord .., Request.low_subWord ..⟩,
      fun n enabled bits compare => Request.pattern_wakesetWords ..⟩
  case completion =>
    obtain ⟨hkind, hstatus, hdetail, -, htag, -⟩ := c.word0_fields
    obtain ⟨htries, hlength⟩ := c.word0_numbers hbody hattempts
    exact ⟨c.word0, c.word1, rfl, hkind, hstatus, hdetail, htries, htag, hlength, c.word1_fields⟩
  case report =>
    obtain ⟨hkind, -, hgap, -, -, hstation, -⟩ := r.word0_fields
    obtain ⟨hcount, hlength⟩ := r.word0_numbers hitems
    exact ⟨r.word0, rfl, hkind, getLsbD_of_flag hgap, hcount, hstation, hlength⟩
  case station =>
    obtain ⟨hstate, hcount, hhighest⟩ := e.stateWord_fields
    obtain ⟨hzero, hcapable, hzeros, htoggle, hrest, hports⟩ := e.portsWord_fields
    refine ⟨e.stateWord, e.portsWord, stationWords_eq e, ?_, toNat_of_field hcount (by omega), hhighest,
      getLsbD_of_flag hcapable, getLsbD_of_flag htoggle, getLsbD_of_ports hports, hzero, hzeros, hrest⟩
    rw [hstate]
    cases e.state <;> rfl
  case watch =>
    obtain ⟨hstate, hcause, hzero, hunlimited, hlife, hstation⟩ := w.stateWord_fields
    obtain ⟨hfirst, hcount⟩ := w.rangeWord_fields
    refine ⟨w.stateWord, w.rangeWord, watchWords_eq w, ?state, ?cause, ?unlimited, hzero, fun n hn hmax => ?ticks,
      fun hw => ?forever, fun c hc hmax => ?cover, fun hw => ?empty⟩
    case state =>
      rw [hstate]
      cases w.state <;> rfl
    case cause =>
      rw [hcause]
      cases w.cause <;> rfl
    case unlimited => rw [getLsbD_of_flag hunlimited, decide_eq_true_iff]
    case ticks =>
      rw [hn] at hlife
      exact toNat_of_field hlife (Nat.lt_succ_of_le hmax)
    case forever =>
      rw [hw] at hlife
      exact hlife
    case cover =>
      rw [Watch.coverShown_of_some hc] at hstation hfirst hcount
      exact ⟨hstation, hfirst, toNat_of_field hcount (by omega)⟩
    case empty =>
      rw [hw]
      decide
  case line =>
    obtain ⟨hrate, hretry, hthreshold, hpolling, hzero, htimeout⟩ := queryLineTimeouts_fields p
    obtain ⟨hperiod, hinterval, hlifetime, hoverruns⟩ := queryLinePeriods_fields p overruns
    obtain ⟨hholdoff, hopen, hweights⟩ := queryLinePorts_fields p
    obtain ⟨hresult, hrest⟩ := result.word_fields
    obtain ⟨hrateMax, ⟨-, htimeoutMax⟩, hretryMax, ⟨-, hthresholdMax⟩, ⟨-, hperiodMax⟩, ⟨-, hintervalMax⟩, hlifetimeMax,
      hholdoffMax, hweightsMax⟩ := hp
    have hweightMax : ∀ q, p.weights.get q < 2 ^ 4 := fun q => (hweightsMax q).2.trans_lt (by decide)
    obtain ⟨hweight0, hweight1, hweight2, hweight3⟩ := hweights
    refine ⟨_, _, _, _, lineWords_eq p overruns result, toNat_of_field hrate (by omega), toNat_of_field hretry (by omega),
      toNat_of_field hthreshold (by omega), getLsbD_of_flag hpolling, hzero, toNat_of_field htimeout (by omega),
      toNat_of_field hperiod (by omega), toNat_of_field hinterval (by omega), toNat_of_field hlifetime (by omega),
      hoverruns, toNat_of_field hholdoff (by omega), getLsbD_of_ports hopen, toNat_of_field hweight0 (hweightMax 0),
      toNat_of_field hweight1 (hweightMax 1), toNat_of_field hweight2 (hweightMax 2),
      toNat_of_field hweight3 (hweightMax 3), ?_, hrest⟩
    rw [hresult]
    cases result <;> rfl
  case values =>
    rw [Request.values_lineWord, List.length_take, unpackHalves_length]
    refine ⟨Nat.min_eq_left hcount, fun i hi => ?_⟩
    rw [List.getElem?_take_of_lt hi]
    exact unpackHalves_getElem? words i (hi.trans_le hcount)
  case halves =>
    exact ⟨packHalves_length values, fun i hi => ⟨_, packHalves_getElem? values i hi,
      BitVec.extractLsb'_append_eq_left, BitVec.extractLsb'_append_eq_right⟩⟩
  case bytes =>
    refine ⟨packBytes_length addresses, fun i hi => ⟨_, packBytes_getElem? addresses i hi, ?_⟩⟩
    simp (disch := decide) only [BitVec.extractLsb'_append_eq_right, BitVec.extractLsb'_append_eq_left,
      BitVec.extractLsb'_append_eq_of_le, Nat.reduceSub, and_self]

/-- Settles O60: a TAKE-REPORT sends 0 or a word of the head record, and its last word ends the record; the gap flag
stands in bit 24 of word 0 alone. -/
theorem reportRecordsShowTheirItems : Obligations.ReportRecordsShowTheirItems := by
  refine ⟨fun s p hacts => ⟨_, rfl, fun hnone => ?none, fun r rest hrecords hfinished hpos => ?head⟩,
    fun r _ hitems => ?layout⟩
  case none =>
    rw [State.takeWord_link hacts (PortUnit.takeReportWord_none hnone.symm)]
    exact ⟨rfl, rfl⟩
  case head =>
    rw [← r.words_length] at hpos
    rw [ItemsRecord.words_getElem? hpos]
    rcases Nat.lt_or_eq_of_le hpos with hnext | hlast
    · have hbefore : (s.port p).reportPos ≠ r.items.length := by
        rw [r.words_length] at hnext
        omega
      rw [State.takeWord_link hacts (PortUnit.takeReportWord_next hfinished hrecords hnext)]
      exact ⟨rfl, iff_of_false (by simp [hfinished]) hbefore⟩
    · have hat : (s.port p).reportPos = r.items.length := by
        rw [r.words_length] at hlast
        omega
      rw [State.takeWord_link hacts (PortUnit.takeReportWord_last hfinished hrecords hlast)]
      exact ⟨rfl, iff_of_true rfl hat⟩
  case layout =>
    obtain ⟨hkind, hzero, hgap, hzeros, -, hstation, -⟩ := r.word0_fields
    obtain ⟨hcount, hlength⟩ := r.word0_numbers hitems
    exact ⟨r.word0, rfl, hkind, getLsbD_of_flag hgap, hcount, hstation, hlength, hzero, hzeros, _, rfl,
      r.word0_gap_iff⟩

end

section
/-! SUPPORT. The commands that wait (log 21): whatever a change does to the blocks of the part, it leaves them as they
are, and each command answers a next state. -/

-- Under this option Lean elaborates the proofs one after another: each thread of its own would reserve its own memory.
set_option deprecated.oldSectionVars true

namespace Sys2Proof.Machine

open Sys2Proof

theorem State.pending_ite {s a b : State} {c : Prop} [Decidable c] (ha : a.pending = s.pending)
    (hb : b.pending = s.pending) : (if c then a else b).pending = s.pending := by
  split
  · exact ha
  · exact hb

theorem OutcomeReaches.pending {s t : State} (h : OutcomeReaches s t) : t.pending = s.pending :=
  (congrArg State.pending h.rest :)

section

variable (s : State)

/-! ### The Arbiter's choice (R79-R91) -/

@[simp] theorem State.walkCursor_pending (fuel : Nat) : (State.walkCursor fuel s).pending = s.pending := by
  induction fuel generalizing s with
  | zero => rfl
  | succ fuel ih =>
    unfold State.walkCursor
    split
    · split
      · exact State.pending_ite rfl (ih _)
      · exact ih _
    · rfl

@[simp] theorem State.startService_pending (item : ServiceItem) (rest : List ServiceItem) :
    (s.startService item rest).pending = s.pending := by
  simp only [State.startService]
  split
  · rfl
  · split <;> rfl

@[simp] theorem State.startRequest_pending (p : Port) (r : Request) (x : Exchange) :
    (s.startRequest p r x).pending = s.pending := (congrArg State.pending (s.startRequest_rest p r x) :)

@[simp] theorem State.startHead_pending (p : Port) (r : Request) : (s.startHead p r).pending = s.pending := by
  unfold State.startHead
  split
  · exact s.startRequest_pending p r _
  · split
    · rfl
    · split
      · rfl
      · split
        · exact s.startRequest_pending p r _
        · split
          · exact s.startRequest_pending p r _
          · rfl

@[simp] theorem State.checkHead_pending (p : Port) (r : Request) : (s.checkHead p r).1.pending = s.pending := by
  unfold State.checkHead
  split
  · rfl
  · split
    · simp only [State.watchCheck]
      split
      · rfl
      · split <;> rfl
    · rfl

@[simp] theorem State.choosePort_pending : s.choosePort.1.pending = s.pending := by
  unfold State.choosePort
  split
  · rfl
  next p u _ =>
    simp only
    split
    · rfl
    next r _ _ =>
      have hcheck := State.checkHead_pending { s with arbiter := { s.arbiter with pointer := p, used := u } } p r
      split
      next heq => rw [heq] at hcheck; exact hcheck
      next heq => rw [heq] at hcheck; exact (State.startHead_pending _ p r).trans hcheck

@[simp] theorem State.chooseOnce_pending : s.chooseOnce.1.pending = s.pending := by
  unfold State.chooseOnce
  split
  · exact s.startService_pending _ _
  · simp only
    split
    · exact s.walkCursor_pending _
    · exact (State.choosePort_pending _).trans (s.walkCursor_pending _)

@[simp] theorem State.chooseAll_pending (fuel : Nat) : (State.chooseAll fuel s).pending = s.pending := by
  induction fuel generalizing s with
  | zero => rfl
  | succ fuel ih =>
    have honce := s.chooseOnce_pending
    unfold State.chooseAll
    split
    next heq => rw [heq] at honce; exact (ih _).trans honce
    next heq => rw [heq] at honce; exact honce

@[simp] theorem State.choice_pending : s.choice.pending = s.pending :=
  State.pending_ite (s.chooseAll_pending _) rfl

/-! ### What stands ready (R147, R79) -/

@[simp] theorem State.leaveEntry_pending (p : Port) (k : Nat) : (s.leaveEntry p k).pending = s.pending :=
  (congrArg State.pending (s.leaveEntry_rest p k) :)

@[simp] theorem State.attachClaim_pending (p : Port) (a : Byte) : (s.attachClaim p a).1.pending = s.pending := by
  unfold State.attachClaim
  split
  · split <;> rfl
  · split
    · rfl
    · split <;> rfl

@[simp] theorem State.doLocal_pending (p : Port) (r : Request) : (s.doLocal p r).state.pending = s.pending := by
  rcases s.doLocal_state p r with h | h | ⟨k, h⟩ | h | ⟨f, h⟩ | h <;> rw [h]
  · exact s.attachClaim_pending p r.top
  · exact s.leaveEntry_pending p k
  · rfl
  · rfl
  · rfl

@[simp] theorem State.executeHead_pending (p : Port) : (s.executeHead p).1.pending = s.pending := by
  unfold State.executeHead
  split
  · rfl
  next r _ _ =>
    have hlocal := s.doLocal_pending p r
    split <;> (next heq => rw [heq] at hlocal; exact hlocal)

@[simp] theorem State.takeFirst_pending (first : Due) (rest : List Due) :
    (s.takeFirst first rest).2.pending = s.pending := by
  unfold State.takeFirst
  split <;> rfl

@[simp] theorem State.settleAll_pending (fuel : Nat) (call : Bool) :
    (State.settleAll fuel call s).pending = s.pending := by
  induction fuel generalizing s call with
  | zero => rfl
  | succ fuel ih =>
    unfold State.settleAll
    split
    · rfl
    next first rest _ =>
      have hfirst := s.takeFirst_pending first rest
      split
      next heq => rw [heq] at hfirst; exact ((ih _ _).trans (State.executeHead_pending _ _)).trans hfirst
      next heq => rw [heq] at hfirst; exact ((ih _ _).trans (State.choice_pending _)).trans hfirst

@[simp] theorem State.settle_pending (call : Bool) : (s.settle call).pending = s.pending :=
  s.settleAll_pending _ call

/-! ### The end of an exchange (R69-R76) -/

variable (x : Exchange)

@[simp] theorem State.outcomeTaken_pending (o : Final) : (s.outcomeTaken x o).pending = s.pending := by
  have hreaches : (((s.recordIdle.tableTakesEnd x o).watchTakesEnd x o).routerTakesEnd x o).pending = s.pending :=
    (((OutcomeReaches.tableTakesEnd _ x o).trans (.watchTakesEnd _ x o)).trans (.routerTakesEnd _ x o)).pending
  unfold State.outcomeTaken
  refine State.pending_ite rfl ?_
  unfold State.attachesTakeEnd
  split
  · split <;> exact hreaches
  · exact hreaches

@[simp] theorem State.handEnd_pending (o : Final) : (s.handEnd x o).pending = s.pending := by
  rw [s.handEnd_eq]
  unfold State.portTakesEnd State.arbiterTakesEnd
  split <;> split <;> exact s.outcomeTaken_pending x o

@[simp] theorem State.startPaired_pending (p : Port) : (s.startPaired p).pending = s.pending := by
  rw [s.startPaired_eq]
  split
  · rfl
  · exact State.startHead_pending _ p _

@[simp] theorem State.failPaired_pending (p : Port) (attempts : Nat) :
    (s.failPaired p attempts).pending = s.pending := by
  simp only [State.failPaired]
  split
  · rfl
  · split <;> rfl

@[simp] theorem State.originExecutes_pending : (s.originExecutes x).pending = s.pending := by
  unfold State.originExecutes
  split
  · exact State.pending_ite (s.executeHead_pending _) rfl
  · rfl

@[simp] theorem State.endExchange_pending (o : Final) : (s.endExchange x o).pending = s.pending := by
  simp only [State.endExchange]
  split
  · split <;> simp
  · simp

/-! ### Attempts and replies (R54-R68) -/

@[simp] theorem State.failAttempt_pending (f : Failure) : (s.failAttempt x f).pending = s.pending := by
  simp only [State.failAttempt]
  split
  · split <;> rfl
  · exact s.endExchange_pending _ _

@[simp] theorem State.sendDone_pending : s.sendDone.pending = s.pending := by
  unfold State.sendDone
  split
  · rfl
  · split
    · split
      · exact State.pending_ite (s.endExchange_pending _ _) rfl
      · rfl
    · rfl

@[simp] theorem State.frameBegun_pending : s.frameBegun.pending = s.pending :=
  (congrArg State.pending s.frameBegun_rest :)

@[simp] theorem State.replyExpired_pending : s.replyExpired.pending = s.pending := by
  unfold State.replyExpired
  split
  · rfl
  · exact State.pending_ite (s.failAttempt_pending _ _) rfl

@[simp] theorem State.holdoffExpired_pending : s.holdoffExpired.pending = s.pending := by
  unfold State.holdoffExpired
  split
  · rfl
  · exact State.pending_ite (s.endExchange_pending _ _) rfl

theorem State.takeAnswer_pending (index : Nat) (values : List Half) (more : Bool) :
    (s.takeAnswer x index values more).pending = s.pending := by
  by_cases hbad : x.BadFragment index values more
  · rw [s.takeAnswer_bad x index values more hbad]
    exact s.failAttempt_pending x _
  · rw [s.takeAnswer_good x index values more hbad]
    exact State.pending_ite rfl (s.endExchange_pending x _)

theorem State.takeRefuse_pending (reason : RefuseReason) : (s.takeRefuse x reason).pending = s.pending := by
  cases reason with
  | busy => exact s.failAttempt_pending x _
  | nopoint | denied | fault => exact s.endExchange_pending x _

@[simp] theorem State.takeReply_pending (reply : Reply) : (s.takeReply x reply).pending = s.pending := by
  rcases s.takeReply_cases x reply with heq | ⟨reason, heq⟩ | ⟨index, values, more, heq⟩ | ⟨o, heq⟩ <;> rw [heq]
  · exact s.failAttempt_pending x _
  · exact s.takeRefuse_pending x reason
  · exact s.takeAnswer_pending x index values more
  · exact s.endExchange_pending x o

@[simp] theorem State.takeValid_pending (source : Byte) (reply : Reply) :
    (s.takeValid x source reply).pending = s.pending := by
  simp only [State.takeValid]
  split
  · exact s.failAttempt_pending x _
  · split
    · exact (State.takeReply_pending _ x reply).trans (OutcomeReaches.heard s _).pending
    · exact s.takeReply_pending x reply

@[simp] theorem State.frameEnded_pending (report : FrameReport) : (s.frameEnded report).pending = s.pending := by
  unfold State.frameEnded
  split
  · rfl
  · split
    · cases report with
      | garbled | malformed => exact s.failAttempt_pending _ _
      | ignored => rfl
      | valid source reply => exact s.takeValid_pending _ source reply
    · rfl

/-! ### The field line (R1-R9) -/

@[simp] theorem State.takeCharacter_pending (data : Byte) (fault : Bool) :
    (s.takeCharacter data fault).pending = s.pending := by
  have hbegun : (if s.line.rx = .hunting then s.frameBegun else s).pending = s.pending :=
    State.pending_ite s.frameBegun_pending rfl
  simp only [State.takeCharacter]
  split
  · exact (State.frameEnded_pending _ _).trans hbegun
  · exact hbegun

@[simp] theorem State.confirmFrame_pending : s.confirmFrame.pending = s.pending := by
  unfold State.confirmFrame
  split
  · rfl
  · rfl
  · exact State.frameEnded_pending _ _
  · exact State.frameEnded_pending _ _
  · rfl

@[simp] theorem State.lapse_pending (n : Nat) : (s.lapse n).pending = s.pending :=
  State.pending_ite (State.confirmFrame_pending _) rfl

@[simp] theorem State.transmit_pending : s.transmit.pending = s.pending := by
  unfold State.transmit
  split
  · split <;> rfl
  · rfl

@[simp] theorem State.gapEnds_pending : s.gapEnds.pending = s.pending := by
  unfold State.gapEnds
  split
  · split <;> rfl
  · rfl

@[simp] theorem State.completeSend_pending : s.completeSend.pending = s.pending := State.sendDone_pending _

/-! ### The words of the ports (R142-R145, R164, R167-R172) -/

@[simp] theorem State.voidWord_pending (p : Port) : (s.voidWord p).pending = s.pending := State.pending_ite rfl rfl

@[simp] theorem State.commit_pending (p : Port) (r : Request) : (s.commit p r).1.pending = s.pending := by
  simp only [State.commit]
  split
  · rfl
  · split <;> rfl

@[simp] theorem State.stage_pending (p : Port) (w : Word) : (s.stage p w).pending = s.pending := by
  simp only [State.stage]
  split
  · rfl
  · exact State.pending_ite ((State.settle_pending _ _).trans (State.commit_pending _ p _)) rfl

@[simp] theorem State.submitWord_pending (p : Port) (w : Word) : (s.submitWord p w).pending = s.pending :=
  State.pending_ite (State.stage_pending _ p w) (s.voidWord_pending p)

@[simp] theorem State.submitWords_pending (p : Port) (ws : List Word) : (s.submitWords p ws).pending = s.pending :=
  List.foldlRecOn (motive := fun t : State => t.pending = s.pending) ws _ rfl
    fun t ht w _ => (t.submitWord_pending p w).trans ht

@[simp] theorem State.takeWord_pending (p : Port) (c : Channel) (take : PortUnit → PortUnit × Word) :
    (s.takeWord p c take).pending = s.pending :=
  State.pending_ite rfl (s.voidWord_pending p)

@[simp] theorem State.closePort_pending (p : Port) : (s.closePort p).pending = s.pending := by
  rw [s.closePort_eq]
  exact List.foldlRecOn (motive := fun t : State => t.pending = s.pending) (List.range (s.closed p).table.length)
    (fun t k => t.leaveEntry p k) rfl fun t ht k _ => (t.leaveEntry_pending p k).trans ht

theorem State.control_pending (p : Port) (op : ControlOp) (flags : Byte) :
    (s.control p op flags).pending = s.pending := by
  cases op with
  | close => exact s.closePort_pending p
  | openPort | doze | wakeup | clear | mask | force => rfl

@[simp] theorem State.takeControlWord_pending (p : Port) (w : Word) :
    (s.takeControlWord p w).pending = s.pending := by
  simp only [State.takeControlWord]
  split
  · split
    · exact State.pending_ite (State.control_pending _ p _ _) rfl
    · rfl
  · exact s.voidWord_pending p

/-! ### Slow time (R35, R95, R110) -/

@[simp] theorem State.appendReprobe_pending (k : Nat) : (s.appendReprobe k).pending = s.pending := by
  rw [s.appendReprobe_eq]

@[simp] theorem State.pollEvent_pending (e : PollEvent) : (s.pollEvent e).pending = s.pending := by
  cases e with
  | reprobe k => exact (State.settle_pending _ true).trans (s.appendReprobe_pending k)
  | cycle => exact State.settle_pending _ true

@[simp] theorem State.pollEvents_pending (n : Nat) (events : List PollEvent) :
    (State.pollEvents n events s).pending = s.pending := by
  induction n generalizing s events with
  | zero => rfl
  | succ n ih =>
    unfold State.pollEvents
    split
    · rfl
    · exact s.pollEvent_pending _
    · exact (ih _ _).trans (State.pollEvent_pending _ _)

@[simp] theorem State.pollTick_pending : s.pollTick.pending = s.pending := by
  have hticked : s.ticked.pending = s.pending := (congrArg State.pending s.ticked_rest :)
  rw [s.pollTick_eq]
  exact (State.pollEvents_pending _ _ _).trans hticked

@[simp] theorem State.expireWatch_pending (p : Port) (k : WatchNo) : (s.expireWatch p k).pending = s.pending :=
  (congrArg State.pending (s.expireWatch_rest p k) :)

/-! ### The configuration load (R188) -/

@[simp] theorem State.applyLoad_pending (image : List Byte) (bus : List BusOp) (j : Judgement) :
    (s.applyLoad image bus j).pending = s.pending :=
  (congrArg State.pending (State.preAttaches_rest { s with loader := Loader.finished image bus j } j.kept) :)

end

/-! ### The commands -/

/-- The outcome is a next state, in which the same commands wait as in s. -/
def KeepsQueue (s : State) (o : Host.Outcome State Fault Refusal) : Prop := ∃ t, o = .next t ∧ t.pending = s.pending

section

variable {s : State}

theorem KeepsQueue.next {t : State} (h : t.pending = s.pending) : KeepsQueue s (.next t) := ⟨t, rfl, h⟩

theorem KeepsQueue.stays (s : State) : KeepsQueue s (.next s) := .next rfl

theorem KeepsQueue.ite {c : Prop} [Decidable c] {a b : Host.Outcome State Fault Refusal} (ha : KeepsQueue s a)
    (hb : KeepsQueue s b) : KeepsQueue s (if c then a else b) := by
  split
  · exact ha
  · exact hb

end

section

variable (s : State)

theorem execTransmitStart_keepsQueue : KeepsQueue s (execTransmitStart s) := by
  unfold execTransmitStart
  split
  · exact .next (by simp)
  · exact .stays s

theorem execSendComplete_keepsQueue : KeepsQueue s (execSendComplete s) := by
  unfold execSendComplete
  split
  · exact .next s.completeSend_pending
  · exact .stays s

theorem execCharacterReceived_keepsQueue (data : Byte) (parity stop : Bool) :
    KeepsQueue s (execCharacterReceived data parity stop s) :=
  .ite (.next rfl) (.ite (.stays s) (.next (State.takeCharacter_pending _ _ _)))

theorem execReplyTimerExpiry_keepsQueue : KeepsQueue s (execReplyTimerExpiry s) := by
  unfold execReplyTimerExpiry
  split
  · exact .next (by simp)
  · exact .stays s

theorem execHoldoffExpiry_keepsQueue : KeepsQueue s (execHoldoffExpiry s) := by
  unfold execHoldoffExpiry
  split
  · exact .next (by simp)
  · exact .stays s

theorem execTick_keepsQueue : KeepsQueue s (execTick s) := by
  unfold execTick
  split
  · exact .stays s
  · exact .ite (.next s.pollTick_pending) (.next rfl)

theorem execPollTick_keepsQueue : KeepsQueue s (execPollTick s) := by
  unfold execPollTick
  split
  · exact .stays s
  · exact .next s.pollTick_pending

theorem execReprobeDue_keepsQueue (slot : Fin 32) : KeepsQueue s (execReprobeDue slot s) := by
  unfold execReprobeDue
  split
  · exact .ite (.next (by simp)) (.stays s)
  · exact .stays s

/-- A command is an event with its effect, or no event, which leaves the state as it is (log 9). -/
theorem exec_keepsQueue (c : Instr) : KeepsQueue s (exec c s) := by
  cases c with
  | powerOnReset => exact .next rfl
  | loadStart => exact .ite (.next rfl) (.stays s)
  | loadEnd lines => exact .ite (.next ((State.settle_pending _ true).trans (s.applyLoad_pending _ _ _))) (.stays s)
  | warmRestart => exact .ite (.next rfl) (.stays s)
  | warmRestartEnd => exact .ite (.next (State.settle_pending _ true)) (.stays s)
  | channelOperation p op => exact .ite (.next rfl) (.stays s)
  | transactionBegin p => exact .ite (.stays s) (.next rfl)
  | transactionEnd p => exact .next rfl
  | submitWord p w => exact .next (s.submitWord_pending p w)
  | takeCompletion p | takeReport p => exact .next (s.takeWord_pending p _ _)
  | statusRead p full => exact .ite (.next rfl) (.stays s)
  | openPort p | doze p | wakeup p | close p | clear p flags | mask p flags | force p flags
  | invalidControlOperation p w => exact .next (s.takeControlWord_pending p _)
  | read p | write p | cwrite p | attach p | detach p | release p | filterMode p | filterListAdd p
  | filterListRemove p | filterHashSet p | filterHashClear p | filterClearAll p | wakeset p | queryStation p
  | queryChanges p | queryWatches p | queryLine p | mark p | unassignedKind p =>
    exact .next (s.submitWords_pending p _)
  | transmitStart => exact execTransmitStart_keepsQueue s
  | sendComplete => exact execSendComplete_keepsQueue s
  | characterReceived data parity stop => exact execCharacterReceived_keepsQueue s data parity stop
  | frameConfirmation => exact .ite (.next (s.lapse_pending _)) (.stays s)
  | replyTimerExpiry => exact execReplyTimerExpiry_keepsQueue s
  | retryGapEnd => exact .ite (.next ((State.gapEnds_pending _).trans (s.lapse_pending _))) (.stays s)
  | holdoffExpiry => exact execHoldoffExpiry_keepsQueue s
  | tick => exact execTick_keepsQueue s
  | pollTick => exact execPollTick_keepsQueue s
  | reprobeDue slot => exact execReprobeDue_keepsQueue s slot
  | watchExpired p k => exact .ite (.next (s.expireWatch_pending p k)) (.stays s)
  | lineReturnsHigh => exact .next rfl

end

/-- With a command at the front of the queue a step is its execution, off the queue. -/
theorem step_of_front {s : State} {c : Instr} {rest : List Instr} (h : s.pending = c :: rest) :
    step s = exec c { s with pending := rest } := by
  rw [step, h]

end Sys2Proof.Machine
end

section
/-! CLAIM. The queue of commands. -/

-- Under this option Lean elaborates the proofs one after another: each thread of its own would reserve its own memory.
set_option deprecated.oldSectionVars true

open Sys2Proof Sys2Proof.Machine

/-- Settles O2: every arm of exec is total, and no operation on a block of the part touches the commands that wait. -/
theorem everyCommandAnswersANextState : Obligations.EveryCommandAnswersANextState :=
  fun c s => exec_keepsQueue s c

/-- Settles O1: a step splits on the queue. -/
theorem stepRunsTheFrontCommand : Obligations.StepRunsTheFrontCommand :=
  fun _ _ _ => step_of_front

end
